-- ==== Sys2Proof/Word.lean ====
section
/-! DEFINITION. The words of the PF3: a byte of a link, the house block number and the house frame number.

The house block number wraps at 2^32 (R21) and the house frame number at 2^32 × 32 = 2^37 (R70), so both are
bit vectors: their addition and difference wrap as the manual says. Counts, indexes, offsets, settings and
samples never wrap, and are plain `Nat` and `Int`. -/

namespace Sys2Proof

/-- One byte of a link message or of the stored copy. -/
abbrev Byte := BitVec 8

/-- A house block number, 0..4,294,967,295 (R21). -/
abbrev HouseBlock := BitVec 32

/-- A house frame number: the house block number × 32 + phase, counted modulo 2^37 (R70). -/
abbrev HouseFrame := BitVec 37

end Sys2Proof
end

