-- ==== Sys2Proof/Syntax.lean ====
section
/-! DEFINITION. The commands of the PF3: one constructor of `Instr` per row of spec/opcode_table.json, with the
operands that the row's rule gives it, and the names those operands use. -/

namespace Sys2Proof

/-- A rig port, delay line and tracker (00_scope, Samples). -/
inductive Rig where
  | A | B | C
deriving DecidableEq, Repr, Inhabited

/-- The rigs in port order (00_scope, Samples). -/
def Rig.all : List Rig := [.A, .B, .C]

/-- What a group is heard from: a rig or FALLBACK (R149). In R171's numbering A, B, C, FALLBACK are H'00..H'03. -/
inductive Source where
  | rig (r : Rig)
  | fallback
deriving DecidableEq, Repr, Inhabited

/-- The role carried in a Reference (R62). -/
inductive Role where
  | air | cover | standby | excluded
deriving DecidableEq, Repr, Inhabited

/-- A level of the cue input line (R41). -/
inductive Level where
  | low | high
deriving DecidableEq, Repr, Inhabited

/-- What the transport does at a segment's end (R2). -/
inductive EndAction where
  | next | park
deriving DecidableEq, Repr, Inhabited

/-- A timecode value HH:MM:SS:FF (R5). -/
structure TcValue where
  hours : Nat
  minutes : Nat
  seconds : Nat
  frames : Nat
deriving DecidableEq, Repr, Inhabited

/-- The segment entry as SET ENTRY carries it, before check 5 of R6: every optional field by itself, so that an
incomplete part can be written (and is refused). -/
structure EntryFields where
  code : Nat
  length : Nat
  endAction : EndAction
  vampIn : Option Nat := none
  vampOut : Option Nat := none
  passLimit : Option Nat := none
  tempo : Option Nat := none
  beats : Option Nat := none
  downbeat : Option Nat := none
  tcStart : Option TcValue := none
  tcRate : Option Nat := none
deriving DecidableEq, Repr

/-- A group's kind (R149). -/
inductive GroupKind where
  | blend | cut
deriving DecidableEq, Repr, Inhabited

/-- A group's fallback setting (R149). -/
inductive FallbackKind where
  | silence | click
deriving DecidableEq, Repr, Inhabited

/-- A group's follow setting (R149). -/
inductive FollowKind where
  | follow | pinned
deriving DecidableEq, Repr, Inhabited

/-- An output group's definition, less its number (R149). -/
structure GroupDef where
  first : Nat
  last : Nat
  kind : GroupKind
  fallback : FallbackKind
  follow : FollowKind
deriving DecidableEq, Repr

/-- The trigger enables (R43). -/
structure Triggers where
  cueLine : Bool
  rigA : Bool
  rigB : Bool
  rigC : Bool
deriving DecidableEq, Repr

/-- The steps of the PF3: one constructor per row of spec/opcode_table.json, in the table's order. -/
inductive Instr where
  /-- COLD_START (R19): power is applied. -/
  | coldStart
  /-- HOUSE_BLOCK_BOUNDARY (R21): a new house block; `cue` is the cue input's level sampled at it (R41). -/
  | houseBlockBoundary (cue : Level)
  /-- START_COUNTDOWN_EXPIRY (R29). -/
  | startCountdownExpiry
  /-- CUE_DEBOUNCE_EXPIRY (R41). -/
  | cueDebounceExpiry
  /-- VERIFY_COUNTDOWN_EXPIRY (R82) at one tracker. -/
  | verifyCountdownExpiry (rig : Rig)
  /-- BEAT_INTERVAL_EXPIRY (R100) at one tracker. -/
  | beatIntervalExpiry (rig : Rig)
  /-- HELD_MESSAGE_TIMER_EXPIRY (R164). -/
  | heldMessageTimerExpiry
  /-- BLOCK_MESSAGE (R51): a message's bytes arrive at a rig link port. -/
  | blockMessage (rig : Rig) (bytes : List Byte)
  /-- SLOT_EXPIRY (R52). -/
  | slotExpiry (rig : Rig)
  /-- SILENCE_LIMIT (R50). -/
  | silenceLimit (rig : Rig)
  /-- BEAT_MESSAGE (R60): a message's bytes arrive at a rig link port. -/
  | beatMessage (rig : Rig) (bytes : List Byte)
  /-- TAKE_START (R133) of the take with this number. -/
  | takeStart (take : Nat)
  /-- TAKE_WAIT_EXPIRY (R134) of the take with this number. -/
  | takeWaitExpiry (take : Nat)
  /-- RAMP_END (R139) of the take with this number. -/
  | rampEnd (take : Nat)
  /-- SETTLE_END (R141) of the take with this number. -/
  | settleEnd (take : Nat)
  /-- OUTPUT_FRAME (R152): the next frame of the house block is output. -/
  | outputFrame
  /-- TIME_MESSAGE_END (R165). -/
  | timeMessageEnd
  /-- STORE_WRITE_END (R17): the write ends; `damage` lists the bytes of the copy that read back changed
  (place, exclusive-or with what was written); an intact write has none. -/
  | storeWriteEnd (damage : List (Nat × Byte))
  /-- STORE_TIMEOUT (R17): 2 s have passed; `written` bytes of the copy had been written. -/
  | storeTimeout (written : Nat)
  /-- DESK_FRAME (R169): these bytes arrive on the desk link, the last of them ending a frame. -/
  | deskFrame (bytes : List Byte)
  /-- INTER_BYTE_TIMEOUT (R169). -/
  | interByteTimeout
  /-- TRANSMIT_FRAME_END (R179). -/
  | transmitFrameEnd
  /-- SET_ENTRY (R6). -/
  | setEntry (index : Nat) (entry : EntryFields)
  /-- DROP_ENTRY (R9). -/
  | dropEntry (index : Nat)
  /-- CLEAR_SET (R10). -/
  | clearSet
  /-- STORE_SHOW (R15). -/
  | storeShow
  /-- RECALL_SHOW (R18). -/
  | recallShow
  /-- ARM (R32). -/
  | arm
  /-- DISARM (R33). -/
  | disarm
  /-- GO (R34, R35). -/
  | go
  /-- HALT (R38). -/
  | halt
  /-- LOCATE (R36, R37); an absent offset is 0. -/
  | locate (index : Nat) (offset : Option Nat)
  /-- HOME (R36). -/
  | home
  /-- RELEASE (R39). -/
  | release
  /-- RESTART (R180). -/
  | restart
  /-- TAKE (R121): a rig and a list of group numbers. -/
  | take (rig : Source) (groups : List Nat)
  /-- EXCLUDE (R86). -/
  | exclude (rig : Source)
  /-- ADMIT (R87). -/
  | admitRig (rig : Source)
  /-- SET_GROUP (R150, R151); an absent definition is REMOVE. -/
  | setGroup (number : Nat) (definition : Option GroupDef)
  /-- SET_RATE (R64). -/
  | setRate (value : Nat)
  /-- SET_LEAD (R45). -/
  | setLead (value : Nat)
  /-- SET_DEBOUNCE (R176). -/
  | setDebounce (value : Nat)
  /-- SET_TRIGGERS (R175). -/
  | setTriggers (value : Triggers)
  /-- SET_VERIFY (R83). -/
  | setVerify (value : Nat)
  /-- SET_SLIP_WINDOW (R98). -/
  | setSlipWindow (value : Nat)
  /-- SET_BEAT_INTERVAL (R100). -/
  | setBeatInterval (value : Nat)
  /-- SET_THRESHOLD (R124). -/
  | setThreshold (value : Nat)
  /-- SET_RECOVER (R125). -/
  | setRecover (value : Bool)
  /-- SET_BLEND (R146). -/
  | setBlend (value : Nat)
  /-- SET_SETTLE (R146). -/
  | setSettle (value : Nat)
  /-- SET_PREFERENCE (R126). -/
  | setPreference (rigs : List Source)
  /-- QUERY_ENTRY (R177). -/
  | queryEntry (index : Nat)
  /-- QUERY_GROUP (R177). -/
  | queryGroup (number : Nat)
  /-- QUERY_RIG (R177). -/
  | queryRig (rig : Source)
  /-- QUERY_TRANSPORT (R177). -/
  | queryTransport
  /-- QUERY_ARBITER (R177). -/
  | queryArbiter
  /-- QUERY_TAKES (R177). -/
  | queryTakes
  /-- QUERY_SETTINGS (R177). -/
  | querySettings
  /-- POWER_REMOVED (R17): power goes, with `written` bytes of a copy in flight written. -/
  | powerRemoved (written : Nat)
  /-- START_BYTE (R169): the byte H'A5 arrives on the desk link. -/
  | startByte
  /-- LENGTH_OUT_OF_RANGE (R169): the two length bytes of a frame arrive. -/
  | lengthOutOfRange (high low : Byte)
  /-- BYTE_WITHOUT_STOP_BIT (R169). -/
  | byteWithoutStopBit
deriving DecidableEq, Repr

end Sys2Proof
end

