-- ==== Sys2Proof/Config.lean ====
section
/-! DEFINITION. What the PF3 fixes in numbers (each with its rule), and the free values: opaque constants for the
values the manual leaves open. -/

namespace Sys2Proof.Config

/-- The set list holds at most 48 entries (R1). -/
def maxEntries : Nat := 48
/-- A delay line is a ring of 128 slot records (R55). -/
def ringSlots : Nat := 128
/-- A block is 32 frames (R21). -/
def blockFrames : Nat := 32
/-- The largest tap, in frames (R73). -/
def maxTap : Nat := 4064
/-- The largest |e| that a tap correction takes (R74). -/
def maxCorrection : Nat := 64
/-- The Block window: an arrival within ± 8 frames of E is in place (R51). -/
def window : Nat := 8
/-- A link is silent when 128 frames have passed since the last arrival (R50). -/
def silenceFrames : Nat := 128
/-- The acquire count at which a link locks (R49). -/
def acquireCount : Nat := 8
/-- The match count at which SETTLING goes to READY (R78). -/
def settleMatches : Nat := 16
/-- The bad-block run of a STALL (R92). -/
def stallRun : Nat := 3
/-- The good-block run that clears a STALL (R93). -/
def clearRun : Nat := 32
/-- The slip run of a SLIP (R96). -/
def slipLimit : Nat := 4
/-- The boundaries a take waits for its target's audio (R133, R134). -/
def waitLimit : Nat := 4
/-- The reply queue holds up to 16 Replies (R172). -/
def maxReplies : Nat := 16
/-- The notice queue holds at most 32 Notices (R178). -/
def maxNotices : Nat := 32
/-- The largest length field of a desk frame (R169). -/
def maxFrameLength : Nat := 250
/-- The pass limit of a vamp whose entry gives none (R3). -/
def openPassLimit : Nat := 255
/-- The amplitude of the safety click (R167). -/
def clickAmplitude : Int := 1048576
/-- The program channels (R152). -/
def channels : Nat := 64

/-- FREE VALUE: how many bytes of the copy had been written when a RESTART abandons a store operation (R20). The
manual says only that the copy is partly written. Applied to `State.freeCount`. (Safe: log entry 13.) -/
opaque storeProgress : Nat → Nat

/-- FREE VALUE: the bytes of the show that a copy is taken for when its two checks agree although its bytes spell no show
(R14 calls such a copy good, and no rule says what it holds). Applied to the copy's bytes. (Safe: log entry 13.) -/
opaque misreadShow : List Byte → List Byte

/-- FREE VALUE: the role a rig query shows before any Reference has been sent (R177 names 'the role in the last
Reference sent', and none has been sent yet). Applied to `State.freeCount`. (Safe: log entry 16.) -/
opaque unsentRole : Nat → Role

end Sys2Proof.Config
end

