-- ==== Sys2Proof/Machine/State.lean ====
section
/-! DEFINITION. The state of the PF3 as plain data: every register, queue, counter, mode and record that the manual
gives each of its functional blocks, the queue of commands that are waiting, and the state right after reset. -/

namespace Sys2Proof.Machine

/-- Why a step would stop with a fault. The PF3 answers every command and every event with a next state, so no
meaning raises one: the type has no constructor (safe). -/
inductive Fault where
deriving DecidableEq, Repr

/-- Why a step would be refused. -/
inductive Refusal where
  /-- Raised by a command row that has no meaning yet, in exec's arm alone (safe). -/
  | notModelled (mnemonic : String)
deriving DecidableEq, Repr

/-- One value for each rig port, delay line and tracker. -/
structure PerRig (α : Type) where
  a : α
  b : α
  c : α
deriving DecidableEq, Repr

/-- The value of one rig. -/
def PerRig.get {α : Type} (p : PerRig α) : Rig → α
  | .A => p.a
  | .B => p.b
  | .C => p.c

/-- The values with one rig's replaced. -/
def PerRig.set {α : Type} (p : PerRig α) (r : Rig) (x : α) : PerRig α :=
  match r with
  | .A => { p with a := x }
  | .B => { p with b := x }
  | .C => { p with c := x }

/-! ## The set list and the settings (chapter 1) -/

/-- The vamp part of an entry (R3). -/
structure Vamp where
  vampIn : Nat
  vampOut : Nat
  passLimit : Option Nat
deriving DecidableEq, Repr

/-- The tempo part of an entry (R4). -/
structure Tempo where
  tempo : Nat
  beats : Nat
  downbeat : Nat
deriving DecidableEq, Repr

/-- The timecode part of an entry (R5). -/
structure TcPart where
  start : TcValue
  rate : Nat
deriving DecidableEq, Repr

/-- A segment entry of the working set list (R2). -/
structure SegmentEntry where
  code : Nat
  length : Nat
  endAction : EndAction
  vamp : Option Vamp := none
  tempo : Option Tempo := none
  timecode : Option TcPart := none
deriving DecidableEq, Repr

/-- The house rate (R64). -/
inductive Rate where
  | r48 | r96
deriving DecidableEq, Repr

/-- The settings of R19's table. -/
structure Settings where
  rate : Rate
  lead : Nat
  debounce : Nat
  triggers : Triggers
  verify : Nat
  slipWindow : Nat
  beat : Nat
  threshold : Nat
  recover : Bool
  blend : Nat
  settle : Nat
deriving DecidableEq, Repr

/-- The defaults of R19. -/
def Settings.default : Settings where
  rate := .r48
  lead := 48
  debounce := 8
  triggers := ⟨true, false, false, false⟩
  verify := 48
  slipWindow := 0
  beat := 100
  threshold := 3
  recover := true
  blend := 16
  settle := 64

/-- The working contents that a store operation copies (R13). -/
structure Contents where
  setList : List SegmentEntry
  groups : List (Nat × GroupDef)
  prefs : List Rig
  settings : Settings
deriving DecidableEq, Repr

/-- The stored copy as it stands in the retained store (R13, R14): the bytes written, and the 16-bit check stored
after them, which is absent while a copy has not been written through to its check. -/
structure StoredCopy where
  bytes : List Byte
  check : Option (BitVec 16)
deriving DecidableEq, Repr

/-- The store condition (R13). WRITING carries the store operation in flight: its snapshot (R15), and whether a
settings command or a preference list change has set the UNSTORED mark during it (R17). -/
inductive StoreCond where
  | valid
  | invalid
  | writing (snapshot : Contents) (changed : Bool)
deriving DecidableEq, Repr

/-- The store condition as Replies and Notices name it (R174). -/
inductive CondCode where
  | valid | invalid | writing
deriving DecidableEq, Repr

/-! ## The transport (chapter 2) -/

/-- The transport state (R22, section 2.3). -/
inductive TState where
  | idle | parked | starting | rolling | ended
deriving DecidableEq, Repr

/-- A position: set-list index, block offset, vamp pass (R22). -/
structure Pos where
  index : Nat
  offset : Nat
  pass : Nat
deriving DecidableEq, Repr

/-- The marks of a plan entry (R23). -/
structure Marks where
  segmentStart : Bool := false
  loop : Bool := false
  jump : Bool := false
  last : Bool := false
deriving DecidableEq, Repr

/-- A plan entry (R23). -/
structure PlanEntry where
  index : Nat
  code : Nat
  offset : Nat
  pass : Nat
  marks : Marks
deriving DecidableEq, Repr

/-- The lead position with the marks of its entry (R22). -/
structure LeadPos where
  pos : Pos
  marks : Marks
deriving DecidableEq, Repr

/-- The source of a GO or a RELEASE (R44). -/
inductive PressSource where
  | desk
  | cueLine
  | rig (r : Rig)
deriving DecidableEq, Repr

/-- The action of the start cause record (R44). -/
inductive StartAction where
  | go | release
deriving DecidableEq, Repr

/-- The start cause record, when it is not NONE (R44). -/
structure StartCause where
  action : StartAction
  source : PressSource
  block : HouseBlock
deriving DecidableEq, Repr

/-- The transport unit (R22, R25, R41, R42). `heard` is clear while no entry of the run has been dequeued: in ROLLING
it is clear exactly through the block that begins at the change to ROLLING (R29). -/
structure Transport where
  st : TState
  house : Option Pos
  lead : Option LeadPos
  jumpPending : Bool
  plan : List PlanEntry
  countdown : Nat
  latch : Bool
  parkPending : Bool
  endPending : Bool
  cause : Option StartCause
  cueLevel : Level
  cueCount : Nat
  rigCue : PerRig (Option Bool)
  heard : Bool
deriving DecidableEq, Repr

/-- The transport after cold start and RESTART (R25). -/
def Transport.reset : Transport where
  st := .idle
  house := none
  lead := none
  jumpPending := false
  plan := []
  countdown := 0
  latch := false
  parkPending := false
  endPending := false
  cause := none
  cueLevel := .low
  cueCount := 0
  rigCue := ⟨none, none, none⟩
  heard := false

/-! ## The rig link ports (chapter 3) -/

/-- The link state (R47). -/
inductive Link where
  | down | acquiring | locked
deriving DecidableEq, Repr

/-- A tag's position (R47, R53). -/
structure Tag where
  code : Nat
  offset : Nat
  pass : Nat
deriving DecidableEq, Repr

/-- The audio of a present slot: the channel count kept, and 32 frames of that many samples (R55, R56). -/
structure Audio where
  channels : Nat
  frames : List (List Int)
deriving DecidableEq, Repr

/-- A slot record of a delay line; a missing slot has no audio (R55). -/
structure SlotRecord where
  stamp : HouseFrame
  audio : Option Audio
deriving DecidableEq, Repr

/-- A Reference message (R61). -/
structure Reference where
  block : HouseBlock
  st : TState
  position : Option PlanEntry
  role : Role
  beat : Nat
  lead : Nat
deriving DecidableEq, Repr

/-- A rig link port (R47). `line` is the delay line, newest record first; `lastRef` the Reference sent last (R61). -/
structure Port where
  link : Link
  acquire : Nat
  expected : Option HouseFrame
  lastArrival : Option HouseFrame
  prevTag : Option Tag
  beatCode : Option Nat
  line : List SlotRecord
  lastRef : Option Reference
deriving DecidableEq, Repr

/-- A port after cold start (R47). -/
def Port.reset : Port where
  link := .down
  acquire := 0
  expected := none
  lastArrival := none
  prevTag := none
  beatCode := none
  line := []
  lastRef := none

/-! ## The source trackers and health detectors (chapters 4 and 5) -/

/-- The tracker state (R65). -/
inductive TrackerSt where
  | offline | searching | settling | ready | verifying | failed | excluded
deriving DecidableEq, Repr

/-- The failure causes held (R90). -/
structure Causes where
  stall : Bool := false
  slip : Bool := false
  beat : Bool := false
deriving DecidableEq, Repr

/-- A tracker's record (R65, R90). `timer` is absent while the beat-interval timer is stopped. `beatDue` and
`verifyDue` are the model's own: an interval expiry, or the expiry of a verify span, has fallen due at the last boundary
and has not been taken (log entry 3). -/
structure Tracker where
  st : TrackerSt
  tap : Nat
  matchCount : Nat
  cued : Bool
  verify : Nat
  notFound : Nat
  badRun : Nat
  goodRun : Nat
  slipRun : Nat
  balance : Int
  timer : Option Nat
  causes : Causes
  beatDue : Bool
  verifyDue : Bool
deriving DecidableEq, Repr

/-- A tracker after cold start (R65, R90). -/
def Tracker.reset : Tracker where
  st := .offline
  tap := 0
  matchCount := 0
  cued := false
  verify := 0
  notFound := 0
  badRun := 0
  goodRun := 0
  slipRun := 0
  balance := 0
  timer := none
  causes := {}
  beatDue := false
  verifyDue := false

/-! ## The fault arbiter (chapter 6) -/

/-- A detection (chapter 5). -/
inductive Detection where
  | link | stall | slip | beat
deriving DecidableEq, Repr

/-- The cause of a request, a service and a take (R108, R128). -/
inductive Cause where
  | link | stall | slip | beat | recover | manual
deriving DecidableEq, Repr

/-- A request of the request set (R108). -/
structure Request where
  level : Nat
  rig : Rig
  cause : Cause
  block : HouseBlock
deriving DecidableEq, Repr

/-- The arbiter's sets: requests in the order they were added, and (level, owning take) pairs (R108, R110). The
threshold, the recover enable and the preference list stand with the settings. -/
structure Arbiter where
  requests : List Request
  inService : List (Nat × Nat)
deriving DecidableEq, Repr

/-! ## Takes (chapter 7) -/

/-- A member's stage (R129). -/
inductive Stage where
  | outgoing | ramp | incoming
deriving DecidableEq, Repr

/-- A member record; its mode is BLEND or CUT (R129). -/
structure Member where
  group : Nat
  src : Source
  mode : GroupKind
  stage : Stage
deriving DecidableEq, Repr

/-- The state of a take (R128). -/
inductive TakeSt where
  | waiting | blending | settling | closed
deriving DecidableEq, Repr

/-- The model's own: the step of a take that has fallen due at the last boundary and has not been taken. -/
inductive TakeStep where
  | start | waitExpiry | rampEnd | settleEnd
deriving DecidableEq, Repr

/-- A take record (R128). `engine` is the blend engine held: false for 0, true for 1. -/
structure Take where
  num : Nat
  levels : List Nat
  cause : Cause
  rig : Rig
  target : Source
  members : List Member
  dropped : List Rig
  blendLength : Nat
  settlePeriod : Nat
  st : TakeSt
  startFrame : HouseFrame
  wait : Nat
  engine : Option Bool
  ramp : Nat
  settleCount : Nat
  due : Option TakeStep
deriving DecidableEq, Repr

/-- The switch controller: the open takes in take-number order and the next take number (R128, R130). -/
structure Switch where
  takes : List Take
  next : Nat
deriving DecidableEq, Repr

/-! ## Output groups (chapter 8) -/

/-- A last take record (R149). -/
structure LastTake where
  take : Nat
  cause : Cause
  src : Source
  dst : Source
  start : Option HouseBlock
deriving DecidableEq, Repr

/-- A group record: definition and state (R149). -/
structure Group where
  num : Nat
  gdef : GroupDef
  source : Source
  uncovered : Bool
  last : Option LastTake
deriving DecidableEq, Repr

/-- The default definition of group 1 (R19). -/
def GroupDef.default : GroupDef := ⟨1, 64, .blend, .silence, .follow⟩

/-! ## Timecode and click (chapter 9) -/

/-- A Time message (R162, R164); `rate` 0 and value 0 for a segment without a timecode part. -/
structure TimeMsg where
  running : Bool
  jump : Bool
  value : TcValue
  rate : Nat
  code : Nat
deriving DecidableEq, Repr

/-- The held-message timer (R164): stopped; started, its first boundary still to come; or counting. -/
inductive HeldTimer where
  | stopped
  | first
  | counting (n : Nat)
deriving DecidableEq, Repr

/-- The timecode generator and the code output port (R160, R165). `heldDue` is the model's own: a held message has
fallen due at the last boundary and has not been formed. -/
structure Timecode where
  value : TcValue
  running : Bool
  jump : Bool
  held : HeldTimer
  heldDue : Bool
  sending : Option TimeMsg
  waiting : Option TimeMsg
deriving DecidableEq, Repr

/-- The generator and port after cold start (R160, R165). -/
def Timecode.reset : Timecode where
  value := ⟨0, 0, 0, 0⟩
  running := false
  jump := false
  held := .stopped
  heldDue := false
  sending := none
  waiting := none

/-- A beat grid that is present (R166). -/
structure Grid where
  perBeat : Nat
  beats : Nat
  downbeat : Nat
  burst : Nat
deriving DecidableEq, Repr

/-! ## The desk port (chapter 10) -/

/-- The result codes (R173). -/
inductive Result where
  | accepted | clamped | busy | wrongState | notReady | noSource | badValue | duplicate | full | onAir | storeFailed
deriving DecidableEq, Repr

/-- The rig query's record (R177). -/
structure RigRecord where
  link : Link
  acquire : Nat
  st : TrackerSt
  tap : Nat
  cued : Bool
  matchCount : Nat
  verify : Nat
  notFound : Nat
  causes : Causes
  badRun : Nat
  goodRun : Nat
  slipRun : Nat
  balance : Int
  beatCode : Option Nat
  role : Role
deriving DecidableEq, Repr

/-- The transport query's record (R177). -/
structure TransportRecord where
  block : HouseBlock
  st : TState
  house : Option Pos
  lead : Option Pos
  jumpPending : Bool
  planCount : Nat
  countdown : Nat
  latch : Bool
  parkPending : Bool
  endPending : Bool
  cause : Option StartCause
  leadBlocks : Nat
  cueLevel : Level
deriving DecidableEq, Repr

/-- The records that the queries return (R177). -/
inductive QueryRecord where
  | entry (e : SegmentEntry)
  | group (g : Group)
  | rig (r : RigRecord)
  | transport (t : TransportRecord)
  | arbiter (requests : List Request) (inService : List (Nat × Nat)) (threshold : Nat) (recover : Bool)
      (prefs : List Rig)
  | takes (next : Nat) (engine0 engine1 : Option Nat) (table : List Take)
  | settings (settings : Settings) (prefs : List Rig)
deriving DecidableEq, Repr

/-- The summary of a Reply, by class (R174). -/
inductive Summary where
  | none
  | setList (count : Nat) (cond : CondCode) (unstored : Bool)
  | transport (st : TState) (house : Option Pos) (cause : Option StartCause)
  | source (groups : List (Nat × Source × Bool)) (inService : List (Nat × Nat))
  | settings (settings : Settings) (prefs : List Rig)
  | query (record : QueryRecord)
deriving DecidableEq, Repr

/-- A Reply: the command kind echoed, the result code and the summary (section 10.2). -/
structure Reply where
  kind : Byte
  result : Result
  summary : Summary
deriving DecidableEq, Repr

/-- The reason of a TRANSPORT notice (R46). -/
inductive TransportReason where
  | arm | disarm | go | roll | locate | halt | park | endOfRun | edit
deriving DecidableEq, Repr

/-- A vamp decision (R27). -/
inductive Decision where
  | loop | release | limit
deriving DecidableEq, Repr

/-- The origin of a FAULT notice (R106). -/
inductive Origin where
  | detection | renewal
deriving DecidableEq, Repr

/-- The outcome of a request decision (R103). -/
inductive FaultOutcome where
  | requested | advisoryState | advisoryGroup | advisoryLevel
deriving DecidableEq, Repr

/-- The outcome of a service without cover (R127). -/
inductive NoCoverOutcome where
  | fallback | uncovered | unchanged
deriving DecidableEq, Repr

/-- The reason of a snap (R147). -/
inductive SnapReason where
  | engine | supersede
deriving DecidableEq, Repr

/-- The way a take closed, other than by a spoil (R148). -/
inductive Close where
  | settled | superseded | noCover | halt | endOfRun
deriving DecidableEq, Repr

/-- The reason of a STORE_FAILED notice (section 1.6). -/
inductive StoreReason where
  | write | timeout | abandoned | check
deriving DecidableEq, Repr

/-- A Notice's kind and body (section 10.5). -/
inductive NoticeBody where
  | rigState (rig : Rig) (link : Link) (st : TrackerSt) (cued : Bool) (tap : Nat) (causes : Causes) (notFound : Bool)
  | fault (rig : Rig) (detection : Detection) (notFound : Bool) (level : Nat) (origin : Origin) (targetFault : Bool)
      (outcome : FaultOutcome) (causes : Causes)
  | takeBegun (num : Nat) (cause : Cause) (levels : List Nat) (target : Source) (members : List Member)
      (superseded : List Nat) (retarget : Bool) (dropped : List Rig)
  | takeSnapped (num : Nat) (reason : SnapReason) (groups : List Nat) (ramp : Nat) (by_ : Nat) (after : TakeSt)
  | takeSettled (num : Nat) (close : Close) (cause : Cause) (target : Source) (levels : List Nat) (by_ : Option Nat)
      (start : Option HouseBlock) (members : List (Nat × Source))
  | takeSpoiled (num : Nat) (target : Source) (state : TakeSt) (levels : List Nat) (completed : List Nat)
      (left : List (Nat × Source))
  | noCover (cause : Cause) (level : Nat) (rig : Rig) (outcome : NoCoverOutcome) (groups : List Nat) (take : Option Nat)
  | transport (reason : TransportReason) (st : TState) (house : Option Pos) (cause : Option StartCause)
  | segmentStart (index code : Nat) (jump : Bool)
  | vampDecided (index code : Nat) (decision : Decision) (pass : Nat) (heardAt : HouseBlock)
  | stored (count : Nat) (cond : CondCode) (unstored : Bool)
  | storeFailed (reason : StoreReason) (cond : CondCode) (unstored : Bool)
  | noSource (source : PressSource)
deriving DecidableEq, Repr

/-- A Notice: body, the house block at which it was raised, and the LOST flag (section 10.5). -/
structure Notice where
  body : NoticeBody
  block : HouseBlock
  lost : Bool
deriving DecidableEq, Repr

/-- The receiver (R169): hunting, or collecting with the bytes taken since the start byte. -/
inductive Receiver where
  | hunting
  | collecting (taken : List Byte)
deriving DecidableEq, Repr

/-- The transmit line (R179): idle, sending the oldest Reply of the reply queue, or sending a Notice. -/
inductive Line where
  | idle
  | reply
  | notice (n : Notice)
deriving DecidableEq, Repr

/-- The desk port (R169, R172, R178, R179). -/
structure Desk where
  rx : Receiver
  replies : List Reply
  notices : List Notice
  lost : Bool
  line : Line
deriving DecidableEq, Repr

/-- The desk port after cold start (R181). -/
def Desk.reset : Desk where
  rx := .hunting
  replies := []
  notices := []
  lost := false
  line := .idle

/-! ## The whole part -/

/-- The state of the PF3. -/
structure State where
  /-- Power is applied. -/
  power : Bool
  /-- The house block number (R21). -/
  block : HouseBlock
  /-- The phase: the frames of the current house block that have been output, 0..32. -/
  phase : Nat
  /-- The working set list (R1). -/
  setList : List SegmentEntry
  /-- The store condition (R13). -/
  cond : StoreCond
  /-- The UNSTORED mark (R13). -/
  unstored : Bool
  /-- The retained store's copy (R13). -/
  retained : StoredCopy
  /-- The settings in force (R19, R175). -/
  settings : Settings
  /-- The rig preference list (R126). -/
  prefs : List Rig
  /-- The transport unit. -/
  tr : Transport
  /-- The rig link ports. -/
  ports : PerRig Port
  /-- The source trackers. -/
  trackers : PerRig Tracker
  /-- The fault arbiter. -/
  arb : Arbiter
  /-- The switch controller. -/
  sw : Switch
  /-- The group table, in group-number order (R149). -/
  groups : List Group
  /-- The 64 program samples of the last output frame (R152). -/
  program : List Int
  /-- The timecode generator and code output port. -/
  tc : Timecode
  /-- The safety click generator's beat grid (R166). -/
  grid : Option Grid
  /-- The desk port. -/
  desk : Desk
  /-- The model's own: how many free values have been taken (Config's opaque constants are applied to it). -/
  freeCount : Nat
  /-- The model's own: the commands that are waiting, first in, first out. -/
  pending : List Instr
deriving DecidableEq, Repr

/-- The group table that the defaults of R19 give: group 1 over every channel, on FALLBACK (R149). -/
def defaultGroups : List Group := [⟨1, GroupDef.default, .fallback, false, none⟩]

/-- The STORE_FAILED notice that a cold start with a bad stored copy raises first (R19). -/
def checkFailedNotice : Notice := ⟨.storeFailed .check .invalid true, 0, false⟩

/-- The machine right after reset: a cold start (R19, R21, R25, R47, R65, R90, R123, R130, R149, R160, R166, R181) of
a unit whose retained store has never been written, so that the defaults of R19 stand, and the transmit line has begun
the STORE_FAILED notice with reason CHECK (R19, R179, R181). (DESIGN CHOICE, unsafe: log entry 18.) -/
def State.reset : State where
  power := true
  block := 0
  phase := 0
  setList := []
  cond := .invalid
  unstored := true
  retained := ⟨[], none⟩
  settings := Settings.default
  prefs := [.A, .B, .C]
  tr := Transport.reset
  ports := ⟨Port.reset, Port.reset, Port.reset⟩
  trackers := ⟨Tracker.reset, Tracker.reset, Tracker.reset⟩
  arb := ⟨[], []⟩
  sw := ⟨[], 0⟩
  groups := defaultGroups
  program := List.replicate 64 0
  tc := Timecode.reset
  grid := none
  desk := { Desk.reset with line := .notice checkFailedNotice }
  freeCount := 0
  pending := []

end Sys2Proof.Machine
end

