-- ==== Sys2Proof/Machine/Bytes.lean ====
section
/-! DEFINITION. Bytes: the CRC-16 of every check, the number encodings of R171, and readers of byte lists. -/

namespace Sys2Proof.Machine

/-! ## The check -/

/-- One bit of the CRC-16 with polynomial x^16 + x^12 + x^5 + 1 (00_scope, Checks). -/
def crcBit (c : BitVec 16) (b : Bool) : BitVec 16 :=
  if c.msb != b then (c <<< 1) ^^^ 0x1021#16 else c <<< 1

/-- One byte, most significant bit first (00_scope, Checks). -/
def crcByte (c : BitVec 16) (b : Byte) : BitVec 16 :=
  [b.getLsbD 7, b.getLsbD 6, b.getLsbD 5, b.getLsbD 4, b.getLsbD 3, b.getLsbD 2, b.getLsbD 1, b.getLsbD 0].foldl
    crcBit c

/-- The CRC-16 of a byte list, initial value all ones (00_scope, Checks; R14, section 3.2, R169). -/
def crc16 (bs : List Byte) : BitVec 16 := bs.foldl crcByte 0xFFFF#16

/-- A check as it is sent or stored: most significant byte first (00_scope, Checks). -/
def crcBytes (c : BitVec 16) : List Byte := [c.extractLsb' 8 8, c.extractLsb' 0 8]

/-! ## Numbers, most significant byte first (R171) -/

/-- A number in 1 byte. -/
def num1 (n : Nat) : List Byte := [BitVec.ofNat 8 n]

/-- A number in 2 bytes. -/
def num2 (n : Nat) : List Byte := [BitVec.ofNat 8 (n / 256), BitVec.ofNat 8 n]

/-- A number in 4 bytes. -/
def num4 (n : Nat) : List Byte :=
  [BitVec.ofNat 8 (n / 16777216), BitVec.ofNat 8 (n / 65536), BitVec.ofNat 8 (n / 256), BitVec.ofNat 8 n]

/-- A signed number in 1 byte, in two's complement. -/
def signed1 (n : Int) : List Byte := [BitVec.ofInt 8 n]

/-- An optional field: a presence byte, then the field only when present. -/
def optBytes {α : Type} (f : α → List Byte) : Option α → List Byte
  | none => [0]
  | some x => 1 :: f x

/-- A list: a count byte, then its items. -/
def listBytes {α : Type} (f : α → List Byte) (xs : List α) : List Byte := num1 xs.length ++ xs.flatMap f

/-- The number of a byte pair. -/
def be2 (a b : Byte) : Nat := a.toNat * 256 + b.toNat

/-- The number of four bytes. -/
def be4 (a b c d : Byte) : Nat := be2 a b * 65536 + be2 c d

/-- A 24-bit two's complement sample, most significant byte first (section 3.2). -/
def sample3 (a b c : Byte) : Int := (a ++ b ++ c : BitVec 24).toInt

/-! ## Readers -/

/-- A reader takes a field from the front of a byte list, or fails. -/
abbrev Reader (α : Type) := List Byte → Option (α × List Byte)

/-- A number in 1 byte. -/
def read1 : Reader Nat
  | a :: bs => some (a.toNat, bs)
  | [] => none

/-- A number in 2 bytes. -/
def read2 : Reader Nat
  | a :: b :: bs => some (be2 a b, bs)
  | _ => none

/-- A number in 4 bytes. -/
def read4 : Reader Nat
  | a :: b :: c :: d :: bs => some (be4 a b c d, bs)
  | _ => none

/-- A choice byte: the value it numbers, or failure where it names none (R171). -/
def readChoice {α : Type} (values : List α) : Reader α
  | a :: bs => (values[a.toNat]?).map (·, bs)
  | [] => none

/-- An optional field: a presence byte other than H'00 or H'01 fails (R171). -/
def readOpt {α : Type} (r : Reader α) : Reader (Option α)
  | a :: bs =>
    if a = 0 then some (none, bs)
    else if a = 1 then (r bs).map fun x => (some x.1, x.2)
    else none
  | [] => none

/-- A given number of items. -/
def readMany {α : Type} (r : Reader α) : Nat → Reader (List α)
  | 0, bs => some ([], bs)
  | n + 1, bs =>
    match r bs with
    | none => none
    | some (x, rest) => (readMany r n rest).map fun y => (x :: y.1, y.2)

/-- A list: a count byte followed by its items (R171). -/
def readList {α : Type} (r : Reader α) : Reader (List α)
  | a :: bs => readMany r a.toNat bs
  | [] => none

/-- A whole payload: the reader must use every byte (R170: a payload longer than its fields fails). -/
def readWhole {α : Type} (r : Reader α) (bs : List Byte) : Option α :=
  match r bs with
  | some (x, []) => some x
  | _ => none

end Sys2Proof.Machine
end

