-- ==== Sys2Proof/Machine/HouseTime.lean ====
section
/-! DEFINITION. House time: blocks, frames and phases, their wrapping comparison, and settings in ms as blocks. -/

namespace Sys2Proof.Machine

/-- The first frame of a house block: block × 32 (00_scope, House frame number). -/
def firstFrame (b : HouseBlock) : HouseFrame := BitVec.ofNat 37 (b.toNat * 32)

/-- The house frame of a block at a phase (00_scope, House frame number). -/
def frameAt (b : HouseBlock) (phase : Nat) : HouseFrame := BitVec.ofNat 37 (b.toNat * 32 + phase)

/-- The block of a house frame: floor (O / 32) (R69). -/
def frameBlock (f : HouseFrame) : HouseBlock := BitVec.ofNat 32 (f.toNat / 32)

/-- The phase of a house frame: O mod 32 (R69). -/
def framePhase (f : HouseFrame) : Nat := f.toNat % 32

/-- The difference of two house frames, read as a signed number (R70). -/
def frameDiff (x y : HouseFrame) : Int := (x - y).toInt

/-- The difference of two house blocks, read as a signed number (R21). -/
def blockDiff (x y : HouseBlock) : Int := (x - y).toInt

/-- The house rate in frames/s (R64). -/
def Rate.frames : Rate → Nat
  | .r48 => 48000
  | .r96 => 96000

/-- A time in ms as blocks: ms × house rate / 32,000 (00_scope, Millisecond settings; R41, R100). -/
def blocksOfMs (r : Rate) (ms : Nat) : Nat := ms * r.frames / 32000

/-- The house frame number now: the next frame to be output. After the 32nd frame of a block it is the first frame of
the block that the boundary is about to begin. -/
def State.now (s : State) : HouseFrame := frameAt s.block s.phase

end Sys2Proof.Machine
end

