-- ==== Sys2Proof/Machine/Ops.lean ====
section
/-! DEFINITION. The shared operations over the State: the records of one rig, raising a Notice, the reply queue and
the transmit line, and the frame of an event and of a desk Command. -/

namespace Sys2Proof.Machine

/-! ## One rig's records -/

/-- A rig's port. -/
def State.port (s : State) (r : Rig) : Port := s.ports.get r

/-- A rig's tracker. -/
def State.tracker (s : State) (r : Rig) : Tracker := s.trackers.get r

/-- The state with a rig's port replaced. -/
def State.setPort (s : State) (r : Rig) (p : Port) : State := { s with ports := s.ports.set r p }

/-- The state with a rig's tracker replaced. -/
def State.setTracker (s : State) (r : Rig) (t : Tracker) : State := { s with trackers := s.trackers.set r t }

/-- The state with a rig's remembered CUE flag replaced (R42). -/
def State.setRigCue (s : State) (r : Rig) (c : Option Bool) : State :=
  { s with tr := { s.tr with rigCue := s.tr.rigCue.set r c } }

/-- The first rig of a list with a property. -/
def firstRig (p : Rig → Bool) (rs : List Rig) : Option Rig := rs.find? p

/-! ## Notices (R178) -/

/-- The notice queue takes an offered Notice: at the tail while it holds fewer than 32, carrying and clearing the lost
flag; otherwise the Notice is discarded and the lost flag set (R178). -/
def Desk.offer (d : Desk) (b : NoticeBody) (block : HouseBlock) : Desk :=
  if d.notices.length < Config.maxNotices then
    { d with notices := d.notices ++ [⟨b, block, d.lost⟩], lost := false }
  else { d with lost := true }

/-- A block raises a Notice, at the current house block (R178). -/
def raise (b : NoticeBody) (s : State) : State := { s with desk := s.desk.offer b s.block }

/-- The RIG_STATE notice of a rig as its port and tracker now stand (R63, R89). -/
def raiseRigState (r : Rig) (notFound : Bool) (s : State) : State :=
  let t := s.tracker r
  raise (.rigState r (s.port r).link t.st t.cued t.tap t.causes notFound) s

/-! ## The transmit line (R179) -/

/-- When the line is idle it starts the oldest Reply, or else the head Notice, which leaves the queue as its sending
begins (R178, R179). -/
def Desk.kick (d : Desk) : Desk :=
  match d.line with
  | .idle =>
    match d.replies with
    | _ :: _ => { d with line := .reply }
    | [] =>
      match d.notices with
      | n :: ns => { d with line := .notice n, notices := ns }
      | [] => d
  | _ => d

/-- The line, if idle, starts what is waiting (R179). -/
def kick (s : State) : State := { s with desk := s.desk.kick }

/-- A Reply joins the reply queue (R172). -/
def pushReply (r : Reply) (s : State) : State := { s with desk := { s.desk with replies := s.desk.replies ++ [r] } }

/-! ## Events -/

/-- An event at the part: with power it has its effect whole and the transmit line is then given what the event raised
(R179: a Command's Reply is sent ahead of the Notices it raised); without power nothing happens. (DESIGN CHOICE,
unsafe: without power nothing happens, and the line starts once at the end (log entry 1).) -/
def event (f : State → State) (s : State) : State := if s.power then kick (f s) else s

/-! ## The store state (R13) -/

/-- The store condition's name (R174). -/
def StoreCond.code : StoreCond → CondCode
  | .valid => .valid
  | .invalid => .invalid
  | .writing _ _ => .writing

/-- A store operation is in flight (R13). -/
def StoreCond.isWriting : StoreCond → Bool
  | .writing _ _ => true
  | _ => false

/-- The UNSTORED mark is set (R13); during a store operation that is remembered for its completion (R17). -/
def markUnstored (s : State) : State :=
  { s with
    unstored := true
    cond := match s.cond with
      | .writing c _ => .writing c true
      | x => x }

/-! ## Replies (R172, R174) -/

/-- The class of a Command (R170). -/
inductive ReplyClass where
  | setList | transport | source | settings
deriving DecidableEq, Repr

/-- The summary of a class, read from the state that the Command left (R174). -/
def summaryOf (c : ReplyClass) (s : State) : Summary :=
  match c with
  | .setList => .setList s.setList.length s.cond.code s.unstored
  | .transport => .transport s.tr.st s.tr.house s.tr.cause
  | .source => .source (s.groups.map fun g => (g.num, g.source, g.uncovered)) s.arb.inService
  | .settings => .settings s.settings s.prefs

/-- A Command whose frame ends: taken when the reply queue is empty, answered BUSY with class NONE when it holds 1..15
Replies, discarded when it holds 16 (R172). -/
def gate (kind : Byte) (take : State → State) (s : State) : State :=
  match s.desk.replies with
  | [] => take s
  | rs => if rs.length < Config.maxReplies then pushReply ⟨kind, .busy, .none⟩ s else s

/-- A Command of a class, handed to its owning block: its work, then its Reply with the class summary (R170, R174).
(DEDUCED, unsafe: log entry 2.) -/
def command (kind : Byte) (c : ReplyClass) (work : State → State × Result) : State → State :=
  gate kind fun s => let w := work s; pushReply ⟨kind, w.2, summaryOf c w.1⟩ w.1

/-- A query: its record, or BAD_VALUE with class NONE when it names none (R174, R177). -/
def query (kind : Byte) (record : State → Option QueryRecord) : State → State :=
  gate kind fun s =>
    match record s with
    | some r => pushReply ⟨kind, .accepted, .query r⟩ s
    | none => pushReply ⟨kind, .badValue, .none⟩ s

end Sys2Proof.Machine
end

