-- ==== Sys2Proof/Machine/Operands.lean ====
section
/-! DEFINITION. The operand forms of the commands: a segment entry's fields (R2 to R5), a rig, a group's range, a list
of groups, and the value of a setting with its clamp (R175, R176). -/

namespace Sys2Proof

/-- The rig an operand names; FALLBACK is no rig. -/
def Source.rig? : Source → Option Rig
  | .rig r => some r
  | .fallback => none

/-- A group's range lies in 1..64 with first ≤ last (R149, R150 check 3). -/
def GroupDef.inRange (d : GroupDef) : Bool := decide (1 ≤ d.first ∧ d.first ≤ d.last ∧ d.last ≤ 64)

/-- The definition covers a channel (R149). -/
def GroupDef.covers (d : GroupDef) (c : Nat) : Bool := decide (d.first ≤ c ∧ c ≤ d.last)

/-- Two definitions share a channel (R149, R150 check 4). -/
def GroupDef.overlaps (d e : GroupDef) : Bool := decide (d.first ≤ e.last ∧ e.first ≤ d.last)

end Sys2Proof

namespace Sys2Proof.Machine

/-! ## Segment entries: check 5 of R6 -/

/-- The vamp part is absent, or complete and valid (R3). -/
def checkVamp (length : Nat) : Option Nat → Option Nat → Option Nat → Option (Option Vamp)
  | none, none, none => some none
  | some i, some o, limit =>
    if i < o ∧ o ≤ length ∧ 16 ≤ o - i ∧ (limit.all fun p => decide (1 ≤ p ∧ p ≤ 99)) then some (some ⟨i, o, limit⟩)
    else none
  | _, _, _ => none

/-- The tempo part is absent, or complete and valid (R4). -/
def checkTempo (length : Nat) : Option Nat → Option Nat → Option Nat → Option (Option Tempo)
  | none, none, none => some none
  | some t, some b, some d =>
    if 4000 ≤ t ∧ t ≤ 30000 ∧ 1 ≤ b ∧ b ≤ 16 ∧ d < length * 32 then some (some ⟨t, b, d⟩) else none
  | _, _, _ => none

/-- The timecode part is absent, or complete and valid (R5). -/
def checkTimecode : Option TcValue → Option Nat → Option (Option TcPart)
  | none, none => some none
  | some v, some r =>
    if (r = 24 ∨ r = 25 ∨ r = 30) ∧ v.hours ≤ 23 ∧ v.minutes ≤ 59 ∧ v.seconds ≤ 59 ∧ v.frames < r then
      some (some ⟨v, r⟩)
    else none
  | _, _ => none

/-- Check 5 of R6: the entry that the fields give, when every field lies in its range and every part is complete and
consistent (R2 to R5). -/
def checkEntry (f : EntryFields) : Option SegmentEntry :=
  if 1 ≤ f.code ∧ f.code ≤ 999 ∧ 16 ≤ f.length ∧ f.length ≤ 4194303 then
    match checkVamp f.length f.vampIn f.vampOut f.passLimit, checkTempo f.length f.tempo f.beats f.downbeat,
        checkTimecode f.tcStart f.tcRate with
    | some v, some t, some c => some ⟨f.code, f.length, f.endAction, v, t, c⟩
    | _, _, _ => none
  else none

/-- The fields of an entry, each by itself. -/
def SegmentEntry.fields (e : SegmentEntry) : EntryFields where
  code := e.code
  length := e.length
  endAction := e.endAction
  vampIn := e.vamp.map (·.vampIn)
  vampOut := e.vamp.map (·.vampOut)
  passLimit := e.vamp.bind (·.passLimit)
  tempo := e.tempo.map (·.tempo)
  beats := e.tempo.map (·.beats)
  downbeat := e.tempo.map (·.downbeat)
  tcStart := e.timecode.map (·.start)
  tcRate := e.timecode.map (·.rate)

/-- The entry satisfies R2 to R5. -/
def SegmentEntry.ok (e : SegmentEntry) : Bool := checkEntry e.fields == some e

/-- The vamp's pass limit, 255 when the entry gives none (R3). -/
def Vamp.limit (v : Vamp) : Nat := v.passLimit.getD Config.openPassLimit

/-! ## Rigs, groups, lists -/

/-- The rigs an operand list names, when every entry is a rig. -/
def rigList : List Source → Option (List Rig)
  | [] => some []
  | .rig r :: ss => (rigList ss).map (r :: ·)
  | .fallback :: _ => none

/-- No element of the list stands in it twice. -/
def noRepeats {α : Type} [DecidableEq α] : List α → Bool
  | [] => true
  | x :: xs => !xs.contains x && noRepeats xs

/-! ## Settings (R175, R176) -/

/-- The nearest value of a range (R176). -/
def clampTo (low high v : Nat) : Nat := max low (min high v)

/-- The cue debounce nearest to a value: 0..4 ms gives 2 ms, 5..19 ms gives 8 ms, 20 ms and above 32 ms (R176). -/
def clampDebounce (v : Nat) : Nat := if v ≤ 4 then 2 else if v ≤ 19 then 8 else 32

/-- The beat interval nearest to a value: a multiple of 10 within 50..500 ms, a value ending in 5 taking the larger
(R176). -/
def clampBeat (v : Nat) : Nat := (clampTo 50 500 v + 5) / 10 * 10

/-- ACCEPTED when the value was allowed, CLAMPED when another was taken (R176). -/
def clampResult (given taken : Nat) : Result := if given = taken then .accepted else .clamped

/-- The house rate that a value names (R64). -/
def rateOf : Nat → Option Rate
  | 48000 => some .r48
  | 96000 => some .r96
  | _ => none

/-- The settings lie in the ranges of R19's table. -/
def Settings.ok (s : Settings) : Bool :=
  decide (8 ≤ s.lead ∧ s.lead ≤ 120 ∧ (s.debounce = 2 ∨ s.debounce = 8 ∨ s.debounce = 32) ∧ 8 ≤ s.verify ∧
    s.verify ≤ 255 ∧ s.slipWindow ≤ 64 ∧ 50 ≤ s.beat ∧ s.beat ≤ 500 ∧ s.beat % 10 = 0 ∧ s.threshold ≤ 4 ∧
    1 ≤ s.blend ∧ s.blend ≤ 64 ∧ 16 ≤ s.settle ∧ s.settle ≤ 1024)

/-- The definitions are a group table: 1..8 records in rising number order, each in range, no two sharing a channel
(R13, R149). -/
def groupDefsOk (gs : List (Nat × GroupDef)) : Bool :=
  !gs.isEmpty && gs.all (fun g => decide (1 ≤ g.1 ∧ g.1 ≤ 8) && g.2.inRange) &&
    decide (gs.Pairwise fun g h => g.1 < h.1 ∧ g.2.overlaps h.2 = false)

/-- The contents are what a store operation can have copied: R1, R13, R19. -/
def Contents.ok (c : Contents) : Bool :=
  decide (c.setList.length ≤ Config.maxEntries) && c.setList.all SegmentEntry.ok &&
    noRepeats (c.setList.map (·.code)) && groupDefsOk c.groups && noRepeats c.prefs && c.settings.ok

end Sys2Proof.Machine
end

