-- ==== Sys2Proof/Machine/Flags.lean ====
section
/-! DEFINITION. Flags, marks, sets and choices as bytes (R171): a mark or flag alone has bit 0; a set has bit 0 for the
first name listed; a choice is numbered from H'00 in the order its defining rule lists the names. -/

namespace Sys2Proof.Machine

/-- The byte of a set: the weights of its members. -/
def setByte (members : List Bool) : Byte :=
  BitVec.ofNat 8 (members.foldr (fun b n => b.toNat + 2 * n) 0)

/-- A mark or flag by itself: bit 0. (DEDUCED, unsafe: log entry 14.) -/
def flagByte (b : Bool) : Byte := setByte [b]

end Sys2Proof.Machine

namespace Sys2Proof

/-- The trigger enables: CUE_LINE, RIG_A, RIG_B, RIG_C (R175). -/
def Triggers.byte (t : Triggers) : Byte := Machine.setByte [t.cueLine, t.rigA, t.rigB, t.rigC]

/-- A rig: A, B, C (R171). -/
def Rig.byte : Rig → Byte
  | .A => 0
  | .B => 1
  | .C => 2

/-- A rig or source: A, B, C, FALLBACK (R171). -/
def Source.byte : Source → Byte
  | .rig r => r.byte
  | .fallback => 3

/-- NEXT or PARK (R2). -/
def EndAction.byte : EndAction → Byte
  | .next => 0
  | .park => 1

/-- BLEND or CUT (R149). -/
def GroupKind.byte : GroupKind → Byte
  | .blend => 0
  | .cut => 1

/-- SILENCE or CLICK (R149). -/
def FallbackKind.byte : FallbackKind → Byte
  | .silence => 0
  | .click => 1

/-- FOLLOW or PINNED (R149). -/
def FollowKind.byte : FollowKind → Byte
  | .follow => 0
  | .pinned => 1

/-- LOW or HIGH (R41). -/
def Level.byte : Level → Byte
  | .low => 0
  | .high => 1

/-- AIR, COVER, STANDBY, EXCLUDED (section 3.2). -/
def Role.byte : Role → Byte
  | .air => 0
  | .cover => 1
  | .standby => 2
  | .excluded => 3

end Sys2Proof

namespace Sys2Proof.Machine

/-- A plan entry's marks (section 3.2, byte 15 of a Reference). -/
def Marks.byte (m : Marks) : Byte := setByte [m.segmentStart, m.loop, m.jump, m.last]

/-- Failure causes: STALL, SLIP, BEAT (R90). -/
def Causes.byte (c : Causes) : Byte := setByte [c.stall, c.slip, c.beat]

/-- No cause is held. -/
def Causes.isEmpty (c : Causes) : Bool := !c.stall && !c.slip && !c.beat

/-- The causes with one added; LINK is no cause of FAILED (R90, R107). -/
def Causes.add (c : Causes) : Detection → Causes
  | .link => c
  | .stall => { c with stall := true }
  | .slip => { c with slip := true }
  | .beat => { c with beat := true }

/-- The causes with one removed. -/
def Causes.remove (c : Causes) : Detection → Causes
  | .link => c
  | .stall => { c with stall := false }
  | .slip => { c with slip := false }
  | .beat => { c with beat := false }

/-- A set of levels: bit n for level n (R171). -/
def levelsByte (ls : List Nat) : Byte :=
  setByte [ls.contains 0, ls.contains 1, ls.contains 2, ls.contains 3, ls.contains 4]

/-- A set of rigs, in port order. -/
def rigsByte (rs : List Rig) : Byte := setByte [rs.contains .A, rs.contains .B, rs.contains .C]

/-- The flags byte of a Time message: RUNNING, JUMP (section 9.2). -/
def TimeMsg.flags (m : TimeMsg) : Byte := setByte [m.running, m.jump]

/-! ## Choices -/

/-- On or off (R125, R175). (DEDUCED, unsafe: log entry 14.) -/
def onOffByte : Bool → Byte
  | true => 0
  | false => 1

/-- VALID, INVALID, WRITING (R174). -/
def CondCode.byte : CondCode → Byte
  | .valid => 0
  | .invalid => 1
  | .writing => 2

/-- IDLE, PARKED, STARTING, ROLLING, ENDED (section 3.2). -/
def TState.byte : TState → Byte
  | .idle => 0
  | .parked => 1
  | .starting => 2
  | .rolling => 3
  | .ended => 4

/-- DESK, CUE_LINE, RIG_A, RIG_B, RIG_C (R44). (DEDUCED, unsafe: NO_SOURCE's press source is numbered by this list, with
CUE_LINE as 1, although no press is DESK's (log entry 14).) -/
def PressSource.byte : PressSource → Byte
  | .desk => 0
  | .cueLine => 1
  | .rig .A => 2
  | .rig .B => 3
  | .rig .C => 4

/-- GO or RELEASE (R44). -/
def StartAction.byte : StartAction → Byte
  | .go => 0
  | .release => 1

/-- DOWN, ACQUIRING, LOCKED (R47). -/
def Link.byte : Link → Byte
  | .down => 0
  | .acquiring => 1
  | .locked => 2

/-- OFFLINE, SEARCHING, SETTLING, READY, VERIFYING, FAILED, EXCLUDED (R65). -/
def TrackerSt.byte : TrackerSt → Byte
  | .offline => 0
  | .searching => 1
  | .settling => 2
  | .ready => 3
  | .verifying => 4
  | .failed => 5
  | .excluded => 6

/-- LINK, STALL, SLIP, BEAT (R106). -/
def Detection.byte : Detection → Byte
  | .link => 0
  | .stall => 1
  | .slip => 2
  | .beat => 3

/-- The cause of a take: LINK, STALL, SLIP, BEAT, MANUAL, RECOVER (R128). -/
def Cause.takeByte : Cause → Byte
  | .link => 0
  | .stall => 1
  | .slip => 2
  | .beat => 3
  | .manual => 4
  | .recover => 5

/-- The cause of a request and of a NO_COVER: LINK, STALL, SLIP, BEAT, RECOVER, MANUAL (R108, R127). -/
def Cause.requestByte : Cause → Byte
  | .link => 0
  | .stall => 1
  | .slip => 2
  | .beat => 3
  | .recover => 4
  | .manual => 5

/-- OUTGOING, RAMP, INCOMING (R129). -/
def Stage.byte : Stage → Byte
  | .outgoing => 0
  | .ramp => 1
  | .incoming => 2

/-- WAITING, BLENDING, SETTLING, CLOSED (R128). -/
def TakeSt.byte : TakeSt → Byte
  | .waiting => 0
  | .blending => 1
  | .settling => 2
  | .closed => 3

/-- SETTLING, BLENDING or CLOSED: the state after a snap, in R147's order. (DEDUCED, unsafe: R147, not R128, is the rule
that numbers it (log entry 14).) -/
def TakeSt.afterByte : TakeSt → Byte
  | .settling => 0
  | .blending => 1
  | .closed => 2
  | .waiting => 0

/-- The result codes (R173). -/
def Result.byte : Result → Byte
  | .accepted => 0
  | .clamped => 1
  | .busy => 2
  | .wrongState => 3
  | .notReady => 4
  | .noSource => 5
  | .badValue => 6
  | .duplicate => 7
  | .full => 8
  | .onAir => 9
  | .storeFailed => 10

/-- ARM, DISARM, GO, ROLL, LOCATE, HALT, PARK, END, EDIT (R46). -/
def TransportReason.byte : TransportReason → Byte
  | .arm => 0
  | .disarm => 1
  | .go => 2
  | .roll => 3
  | .locate => 4
  | .halt => 5
  | .park => 6
  | .endOfRun => 7
  | .edit => 8

/-- LOOP, RELEASE, LIMIT (R46). -/
def Decision.byte : Decision → Byte
  | .loop => 0
  | .release => 1
  | .limit => 2

/-- DETECTION or RENEWAL (R106). -/
def Origin.byte : Origin → Byte
  | .detection => 0
  | .renewal => 1

/-- REQUESTED, ADVISORY_STATE, ADVISORY_GROUP, ADVISORY_LEVEL (R106). -/
def FaultOutcome.byte : FaultOutcome → Byte
  | .requested => 0
  | .advisoryState => 1
  | .advisoryGroup => 2
  | .advisoryLevel => 3

/-- FALLBACK, UNCOVERED, UNCHANGED (R127). -/
def NoCoverOutcome.byte : NoCoverOutcome → Byte
  | .fallback => 0
  | .uncovered => 1
  | .unchanged => 2

/-- ENGINE or SUPERSEDE (R147). -/
def SnapReason.byte : SnapReason → Byte
  | .engine => 0
  | .supersede => 1

/-- SETTLED, SUPERSEDED, NO_COVER, HALT, END (R148). -/
def Close.byte : Close → Byte
  | .settled => 0
  | .superseded => 1
  | .noCover => 2
  | .halt => 3
  | .endOfRun => 4

/-- WRITE, TIMEOUT, ABANDONED, CHECK (section 1.6). -/
def StoreReason.byte : StoreReason → Byte
  | .write => 0
  | .timeout => 1
  | .abandoned => 2
  | .check => 3

end Sys2Proof.Machine
end

