-- ==== Sys2Proof/Machine/Timecode.lean ====
section
/-! DEFINITION. The timecode generator and the code output port (sections 9.1 and 9.2). -/

namespace Sys2Proof.Machine

/-- The set-list entry at the house index. -/
def State.houseEntry (s : State) : Option SegmentEntry := s.tr.house.bind fun p => s.setList[p.index]?

/-- The frames per timecode frame, q = house rate / timecode rate (R161). -/
def framesPerTc (r : Rate) (tcRate : Nat) : Nat := r.frames / tcRate

/-- A timecode value plus n timecode frames: frames carry into seconds at the rate, seconds into minutes and minutes
into hours at 60, and hours wrap from 23 to 0 (R161). -/
def addTcFrames (v : TcValue) (rate n : Nat) : TcValue :=
  let f := v.frames + n
  let s := v.seconds + f / rate
  let m := v.minutes + s / 60
  let h := v.hours + m / 60
  ⟨h % 24, m % 60, s % 60, f % rate⟩

/-- The timecode value of a house position with frame offset F (R161). -/
def tcValueAt (r : Rate) (p : TcPart) (frameOffset : Nat) : TcValue :=
  addTcFrames p.start p.rate (frameOffset / framesPerTc r p.rate)

/-! ## The code output port (R165) -/

/-- A message handed to the port: begun at once when idle, otherwise it waits; it replaces a message that waits, and
carries JUMP when either of the two carried it (R165). -/
def handTimeMsg (m : TimeMsg) (t : Timecode) : Timecode :=
  match t.sending with
  | none => { t with sending := some m }
  | some _ =>
    match t.waiting with
    | none => { t with waiting := some m }
    | some w => { t with waiting := some { m with jump := m.jump || w.jump } }

/-- A message ends: a waiting one begins at once, and the port is otherwise idle (R165). -/
def endTimeMsg (t : Timecode) : Timecode := { t with sending := t.waiting, waiting := none }

/-! ## The generator -/

/-- A Time message is formed: it takes the jump flag, which is then cleared, and it is handed to the port; the current
value and running flag become the message's (R162, R163, R164). -/
def formTimeMsg (running : Bool) (value : TcValue) (rate code : Nat) (t : Timecode) : Timecode :=
  handTimeMsg ⟨running, t.jump, value, rate, code⟩ { t with value := value, running := running, jump := false }

/-- The held-message timer is set to 0 and started (R164). (DESIGN CHOICE, unsafe: a held message that fell due at a
boundary, and whose HELD_MESSAGE_TIMER_EXPIRY has not been taken when the restart comes, is dropped with its due mark; the
restarted timer forms the next one at the next boundary (log entry 3).) -/
def startHeld (t : Timecode) : Timecode := { t with held := .first, heldDue := false }

/-- The held-message timer stops (R162, R164). (DESIGN CHOICE, unsafe: a message due and not yet formed is dropped (log
entry 3).) -/
def stopHeld (t : Timecode) : Timecode := { t with held := .stopped, heldDue := false }

/-- The jump flag is set (R163). -/
def setJump (t : Timecode) : Timecode := { t with jump := true }

/-- The transport goes to IDLE: the jump flag is cleared and the timer stops (R163, R164). -/
def tcIdle (t : Timecode) : Timecode := { stopHeld t with jump := false }

/-- The generator after a RESTART: its cold-start values; a message being sent is completed, a waiting one is discarded
(R160, R165). -/
def tcRestart (t : Timecode) : Timecode := { Timecode.reset with sending := t.sending }

/-- The state with its timecode generator changed. -/
def State.onTc (f : Timecode → Timecode) (s : State) : State := { s with tc := f s.tc }

/-- The held-message cadence of 100 ms in blocks (R164). -/
def heldCadence (r : Rate) : Nat := blocksOfMs r 100

/-- The held-message timer at a house block boundary: the first boundary after a start forms a message; after that the
timer rises by 1, and forms one when it reaches the cadence (R164). -/
def heldBoundary (s : State) : State :=
  match s.tc.held with
  | .stopped => s
  | .first => { s with tc := { s.tc with held := .counting 0, heldDue := true } }
  | .counting n =>
    if heldCadence s.settings.rate ≤ n + 1 then { s with tc := { s.tc with held := .counting 0, heldDue := true } }
    else { s with tc := { s.tc with held := .counting (n + 1) } }

/-- The held message that has fallen due is formed (R164): RUNNING clear, the value of the house position at phase 0, or
00:00:00:00 with rate field 0 in a segment without a timecode part. -/
def formHeld (s : State) : State :=
  if s.tc.heldDue then
    match s.tr.house, s.houseEntry with
    | some p, some e =>
      let t := { s.tc with heldDue := false }
      match e.timecode with
      | some c => { s with tc := formTimeMsg false (tcValueAt s.settings.rate c (p.offset * 32)) c.rate e.code t }
      | none => { s with tc := formTimeMsg false ⟨0, 0, 0, 0⟩ 0 e.code t }
    | _, _ => { s with tc := { s.tc with heldDue := false } }
  else s

/-- The running message of the output frame at this phase, formed while ROLLING in a segment with a timecode part at
each F that is a multiple of q, other than in the block that begins at the change to ROLLING (R162). -/
def formRunning (s : State) : State :=
  if s.tr.st = .rolling ∧ s.tr.heard = true then
    match s.tr.house, s.houseEntry with
    | some p, some e =>
      match e.timecode with
      | some c =>
        let frameOffset := p.offset * 32 + s.phase
        if frameOffset % framesPerTc s.settings.rate c.rate = 0 then
          { s with tc := formTimeMsg true (tcValueAt s.settings.rate c frameOffset) c.rate e.code s.tc }
        else s
      | none => s
    | _, _ => s
  else s

/-- What the generator does at a dequeue (R163, R164): LOOP and JUMP set the jump flag; in a segment with a timecode part
the held-message timer stops; entering a segment without one starts it. (DEDUCED, unsafe: a JUMP enters the segment it
lands in, also when the house was in it already (log entry 20).) -/
def tcDequeue (hasTimecode : Bool) (m : Marks) (t : Timecode) : Timecode :=
  let t := if m.loop || m.jump then setJump t else t
  if hasTimecode then stopHeld t
  else if m.segmentStart || m.jump then startHeld t
  else t

end Sys2Proof.Machine
end

