-- ==== Sys2Proof/Machine/Click.lean ====
section
/-! DEFINITION. The safety click generator (section 9.3). -/

namespace Sys2Proof.Machine

/-- The frames per beat: R × 6,000 / T rounded to the nearest integer with halves rounded up (R166). -/
def framesPerBeat (r : Rate) (tempo : Nat) : Nat := (2 * r.frames * 6000 + tempo) / (2 * tempo)

/-- The burst: 20 ms at either rate (R166). -/
def burstFrames : Rate → Nat
  | .r48 => 960
  | .r96 => 1920

/-- The period of the accent click's square wave; the plain click's is twice it (R167). -/
def accentPeriod : Rate → Nat
  | .r48 => 24
  | .r96 => 48

/-- The beat grid of an entry, absent without a tempo part (R166). -/
def gridOf (r : Rate) (e : SegmentEntry) : Option Grid :=
  e.tempo.map fun t => ⟨framesPerBeat r t.tempo, t.beats, t.downbeat, burstFrames r⟩

/-- The grid derived at a house block boundary: absent outside ROLLING and through the block that begins at the change
to ROLLING (R166). -/
def deriveGrid (s : State) : State :=
  { s with grid := if s.tr.st = .rolling ∧ s.tr.heard = true then s.houseEntry.bind (gridOf s.settings.rate) else none }

/-- The click sample of a present grid at house frame offset F (R167). -/
def clickOf (r : Rate) (g : Grid) (frameOffset : Nat) : Int :=
  if frameOffset < g.downbeat then 0
  else
    let n := (frameOffset - g.downbeat) / g.perBeat
    let w := (frameOffset - g.downbeat) % g.perBeat
    if g.burst ≤ w then 0
    else
      let period := if n % g.beats = 0 then accentPeriod r else 2 * accentPeriod r
      if w % period < period / 2 then Config.clickAmplitude else -Config.clickAmplitude

/-- The click generator's sample for the output frame at this phase; an absent grid gives 0 (R167). -/
def clickSample (s : State) : Int :=
  match s.grid, s.tr.house with
  | some g, some p => clickOf s.settings.rate g (p.offset * 32 + s.phase)
  | _, _ => 0

end Sys2Proof.Machine
end

