-- ==== Sys2Proof/Machine/Matrix.lean ====
section
/-! DEFINITION. The group table: what it answers, its writes and the reports that follow them, the roles, and the
delay-line reads (chapter 8 and section 3.6). -/

namespace Sys2Proof.Machine

/-! ## What the table answers (R159) -/

/-- The rig is the source of some group (R159). -/
def carries (gs : List Group) (r : Rig) : Bool := gs.any fun g => g.source == .rig r

/-- A group is FOLLOW. -/
def Group.follows (g : Group) : Bool := g.gdef.follow == .follow

/-- The FOLLOW groups on a rig, in group-number order (R159). -/
def followOn (gs : List Group) (r : Rig) : List Group := gs.filter fun g => g.follows && g.source == .rig r

/-- The rig is the source of some FOLLOW group (R159). -/
def carriesFollow (gs : List Group) (r : Rig) : Bool := gs.any fun g => g.follows && g.source == .rig r

/-- The FOLLOW groups on FALLBACK or marked UNCOVERED (R159). -/
def inDifficulty (gs : List Group) : List Group :=
  gs.filter fun g => g.follows && (g.source == .fallback || g.uncovered)

/-- The group with a number. -/
def findGroup (gs : List Group) (n : Nat) : Option Group := gs.find? fun g => g.num == n

/-- The rig is on air: the source of at least one group. -/
def State.onAir (s : State) (r : Rig) : Bool := carries s.groups r

/-- The tap may change: the rig carries no group, or the transport is not ROLLING (R73). -/
def State.tapFree (s : State) (r : Rig) : Bool := !s.onAir r || !(s.tr.st == .rolling)

/-- The tracker is EXCLUDED. -/
def State.isExcluded (s : State) (r : Rig) : Bool := (s.tracker r).st == .excluded

/-- The source that ARM gives a group: the first rig of the preference list that is not EXCLUDED, or FALLBACK (R32). -/
def State.armSource (s : State) : Source :=
  match firstRig (fun r => !s.isExcluded r) s.prefs with
  | some r => .rig r
  | none => .fallback

/-! ## The reports of R158 -/

/-- A failure cause is cleared: when it was the last one held, the tracker leaves FAILED for SEARCHING (R85, R107). -/
def clearCause (d : Detection) (t : Tracker) : Tracker :=
  let c := t.causes.remove d
  if c.isEmpty then { t with causes := c, st := .searching, notFound := 0 } else { t with causes := c }

/-- The rig has ceased to be the source of any group: a held SLIP cause clears (R99). -/
def slipClear (r : Rig) (s : State) : State :=
  if (s.tracker r).causes.slip then raiseRigState r false (s.setTracker r (clearCause .slip (s.tracker r))) else s

/-- The rig has ceased to be the source of any FOLLOW group: its pending detection requests are withdrawn (R112). -/
def withdrawRig (r : Rig) (s : State) : State :=
  { s with arb := { s.arb with requests := s.arb.requests.filter fun q => !(q.rig == r && decide (q.level < 4)) } }

/-- The reports for one rig after an event's writes (R158). -/
def lossReport (before : List Group) (s : State) (r : Rig) : State :=
  let s' := if carries before r && !carries s.groups r then slipClear r s else s
  if carriesFollow before r && !carriesFollow s.groups r then withdrawRig r s' else s'

/-- The reports after the last write of an event, for each rig in port order (R158). -/
def lossReports (before : List Group) (s : State) : State := Rig.all.foldl (lossReport before) s

/-- An event's writes to the group table, and the reports that follow them (R154, R158). -/
def writeGroups (f : List Group → List Group) (s : State) : State :=
  lossReports s.groups { s with groups := f s.groups }

/-! ## The writes of the transport and the desk port (section 8.3) -/

/-- A group placed on a source, its mark cleared (R32, R33). -/
def Group.place (src : Source) (g : Group) : Group := { g with source := src, uncovered := false }

/-- Every group placed on one source, its mark cleared (ARM, DISARM, re-resolution to IDLE). -/
def placeAll (src : Source) (s : State) : State := writeGroups (fun gs => gs.map (Group.place src)) s

/-- The tracker holds CUED. -/
def State.isCued (s : State) (r : Rig) : Bool := (s.tracker r).cued

/-- A group's source and mark after the reassignment at GO (R155). -/
def goGroup (cued : Rig → Bool) (prefs : List Rig) (g : Group) : Group :=
  if g.follows then
    match g.source with
    | .rig r => if cued r then { g with uncovered := false } else g.place (goTarget cued prefs)
    | .fallback => g.place (goTarget cued prefs)
  else g
where
  /-- The first CUED rig of the preference list, or FALLBACK (R34). -/
  goTarget (cued : Rig → Bool) (prefs : List Rig) : Source :=
    match firstRig cued prefs with
    | some r => .rig r
    | none => .fallback

/-- The reassignment at GO in PARKED (R34, R155). -/
def goReassign (s : State) : State := writeGroups (fun gs => gs.map (goGroup s.isCued s.prefs)) s

/-- A TAKE outside ROLLING: each named group that is not on the rig is put on it, its mark cleared (R156). -/
def reassign (r : Rig) (named : List Nat) (s : State) : State :=
  writeGroups (fun gs => gs.map fun g => if named.contains g.num && !(g.source == .rig r) then g.place (.rig r) else g) s

/-- The UNCOVERED mark set on the FOLLOW groups of a rig (R116). -/
def markUncovered (r : Rig) (s : State) : State :=
  { s with groups := s.groups.map fun g => if g.follows && g.source == .rig r then { g with uncovered := true } else g }

/-- The group table with one group's record put in its place in number order. -/
def insertGroup (g : Group) : List Group → List Group
  | [] => [g]
  | h :: hs => if g.num ≤ h.num then g :: (if g.num = h.num then hs else h :: hs) else h :: insertGroup g hs

/-! ## Roles (R62) -/

/-- The rig that is COVER: the first of the preference list that is READY, carries no group and is not EXCLUDED. -/
def State.coverRig (s : State) : Option Rig :=
  firstRig (fun r => (s.tracker r).st == .ready && !s.onAir r) s.prefs

/-- A rig's role (R62). -/
def State.role (s : State) (r : Rig) : Role :=
  if s.isExcluded r then .excluded
  else if s.onAir r then .air
  else if s.coverRig = some r then .cover
  else .standby

/-! ## The delay line (R57, R58, R59) -/

/-- The record spans a house frame (R55). -/
def SlotRecord.spans (rec : SlotRecord) (f : HouseFrame) : Bool := decide ((f - rec.stamp).toNat < 32)

/-- The slot that decides a house frame: the newest-written record whose span contains it (R57). -/
def decidingSlot (line : List SlotRecord) (f : HouseFrame) : Option SlotRecord := line.find? fun rec => rec.spans f

/-- A frame is present when its deciding slot is present (R57). -/
def framePresent (line : List SlotRecord) (f : HouseFrame) : Bool :=
  match decidingSlot line f with
  | some rec => rec.audio.isSome
  | none => false

/-- The sample of a channel at a house frame, 0 where the frame is absent or the channel is above the record's channel
count (R56, R58). -/
def readLine (line : List SlotRecord) (f : HouseFrame) (c : Nat) : Int :=
  match decidingSlot line f with
  | some ⟨stamp, some a⟩ =>
    if c ≤ a.channels then ((a.frames.getD (f - stamp).toNat []).getD (c - 1) 0) else 0
  | _ => 0

/-- The frame that a port reads for an output frame: O less the tap (R58). -/
def tapFrame (o : HouseFrame) (tap : Nat) : HouseFrame := o - BitVec.ofNat 37 tap

/-- The delay-line read of a rig for output frame O and channel c (R58). -/
def State.rigSample (s : State) (r : Rig) (o : HouseFrame) (c : Nat) : Int :=
  readLine (s.port r).line (tapFrame o (s.tracker r).tap) c

/-- The port's answer to the presence question for output frame O (R59). -/
def State.isPresent (s : State) (r : Rig) (o : HouseFrame) : Bool :=
  framePresent (s.port r).line (tapFrame o (s.tracker r).tap)

/-- A group's fallback signal (R153). -/
def State.fallbackSample (s : State) (g : Group) : Int :=
  match g.gdef.fallback with
  | .silence => 0
  | .click => clickSample s

/-- A source's sample for a channel of a group at the output frame now (R138, R152). -/
def State.sourceSample (s : State) (g : Group) (c : Nat) : Source → Int
  | .rig r => s.rigSample r s.now c
  | .fallback => s.fallbackSample g

end Sys2Proof.Machine
end

