-- ==== Sys2Proof/Machine/Takes.lean ====
section
/-! DEFINITION. The take table: take numbers, engines, completion, opening with its supersedes, the boundary work of a
take, its start and its ramp end (chapter 7). The closes stand in Closes.lean, after the arbiter. -/

namespace Sys2Proof.Machine

/-! ## The table -/

/-- The open take with a number. -/
def findTake (ts : List Take) (n : Nat) : Option Take := ts.find? fun t => t.num == n

/-- A take put into the table in take-number order (R128). -/
def insertTake (t : Take) : List Take → List Take
  | [] => [t]
  | u :: us => if t.num ≤ u.num then t :: u :: us else u :: insertTake t us

/-- The state with one take's record changed. -/
def updateTake (n : Nat) (f : Take → Take) (s : State) : State :=
  { s with sw := { s.sw with takes := s.sw.takes.map fun t => if t.num = n then f t else t } }

/-- The state with one take's record gone from the table. -/
def removeTake (n : Nat) (s : State) : State :=
  { s with sw := { s.sw with takes := s.sw.takes.filter fun t => !(t.num == n) } }

/-- The number an open order takes: the first, counting up from the next take number and wrapping from 255 to 0, that
no open take holds (R130). -/
def takeNumber (sw : Switch) : Nat :=
  (((List.range 256).map fun i => (sw.next + i) % 256).find? fun n => (findTake sw.takes n).isNone).getD sw.next

/-- The house block of a take's start frame, or none when it has not started (R141, R148). -/
def Take.startBlock (t : Take) : Option HouseBlock :=
  if t.st = .waiting then none else some (frameBlock t.startFrame)

/-- Some open take has this rig as its target (R86, R103). -/
def isTarget (ts : List Take) (r : Rig) : Bool := ts.any fun t => t.target == .rig r

/-- The number of the take that holds an engine (R177). -/
def engineHolder (ts : List Take) (e : Bool) : Option Nat := (ts.find? fun t => t.engine == some e).map (·.num)

/-- The take has output all the frames of its ramp (R136, R139). -/
def Take.rampDone (t : Take) : Bool := t.st == .blending && decide (t.blendLength ≤ t.ramp)

/-! ## Members -/

/-- A member's stage when it joins, or when its take is re-targeted: INCOMING when its from source is the target
(R129, R131, R134). -/
def joinStage (target src : Source) : Stage := if src = target then .incoming else .outgoing

/-- A RAMP member becomes INCOMING (R136, R139). -/
def Member.arrive (m : Member) : Member := if m.stage = .ramp then { m with stage := .incoming } else m

/-- The take goes to SETTLING: it holds no engine, its RAMP members are INCOMING, and its countdown is its settle period
(R136, R139, R140). (DESIGN CHOICE, unsafe: its ramp count, used in BLENDING alone (R128), stays as the ramp left it (log
entry 21).) -/
def Take.settleNow (t : Take) : Take :=
  { t with st := .settling, members := t.members.map Member.arrive, engine := none, settleCount := t.settlePeriod,
           due := none }

/-- A group completed onto a take's target: source, mark and last take record (R141). -/
def Group.complete (t : Take) (m : Member) (g : Group) : Group :=
  { g with source := t.target, uncovered := false, last := some ⟨t.num, t.cause, m.src, t.target, t.startBlock⟩ }

/-- The group table with members of a take completed (R141). -/
def completeGroups (t : Take) (ms : List Member) (gs : List Group) : List Group :=
  gs.map fun g =>
    match ms.find? fun m => m.group == g.num with
    | some m => g.complete t m
    | none => g

/-- The members that a close of the take completes: all of a BLENDING or SETTLING take, the INCOMING ones of a WAITING
take (R141). -/
def Take.completing (t : Take) : List Member :=
  if t.st = .waiting then t.members.filter fun m => m.stage == .incoming else t.members

/-- The members that a close of the take leaves on their from sources (R142, R143). -/
def Take.leaving (t : Take) : List Member :=
  if t.st = .waiting then t.members.filter fun m => !(m.stage == .incoming) else []

/-- Each member's group with the source it has in the table (R148). -/
def memberSources (gs : List Group) (ms : List Member) : List (Nat × Source) :=
  ms.map fun m => (m.group, ((findGroup gs m.group).map (·.source)).getD m.src)

/-! ## Opening (R131, R132) -/

/-- An open order from the arbiter (R131). -/
structure OpenOrder where
  level : Nat
  cause : Cause
  rig : Rig
  target : Source
  members : List (Nat × Source)
deriving DecidableEq, Repr

/-- What remains of an old take after a supersede (R132): BLENDING with no RAMP member left goes to SETTLING; an emptied
take keeps its state until it is closed; otherwise it continues. -/
def Take.afterSupersede (t : Take) (kept : List Member) : Take :=
  let t' := { t with members := kept }
  if kept.isEmpty then t'
  else if t.st = .blending ∧ (kept.any fun m => m.stage == .ramp) = false then t'.settleNow
  else t'

/-- The state that TAKE_SNAPPED names after a supersede's snap (R147). -/
def Take.snapState (t : Take) : TakeSt := if t.members.isEmpty then .closed else t.st

/-- A take whose ramp end has fallen due at the boundary has it taken before a supersede takes its members (R139). Until that
boundary the take is BLENDING, also when its ramp's last frame has been output. (DEDUCED, unsafe: log entry 11.) -/
def Take.endRampIfDue (t : Take) : Take := if t.st = .blending ∧ t.due = some .rampEnd then t.settleNow else t

/-- The ramp count that TAKE_SNAPPED gives after a supersede, 0 to blend length − 1 (R147). (DEDUCED, unsafe: blend length − 1
between the ramp's last frame and its boundary, where the frames output are blend length (log entry 11).) -/
def Take.snapCount (t : Take) : Nat := min t.ramp (t.blendLength - 1)

/-- One old take superseded for the groups of an open order by take `by_` (R132): the groups it gives up, those heard
from its target completed onto it, and TAKE_SNAPPED when it had RAMP members among them. (DEDUCED: log entry 11.) -/
def supersedeTake (groups : List Nat) (by_ : Nat) (s : State) (old : Take) : State :=
  let t := old.endRampIfDue
  let taken := t.members.filter fun m => groups.contains m.group
  if taken.isEmpty then s
  else
    let after := t.afterSupersede (t.members.filter fun m => !groups.contains m.group)
    let snapped := taken.filter fun m => m.stage == .ramp
    let s := { s with groups := completeGroups t (taken.filter fun m => !(m.stage == .outgoing)) s.groups }
    let s := updateTake t.num (fun _ => after) s
    if snapped.isEmpty then s
    else raise (.takeSnapped t.num .supersede (snapped.map (·.group)) t.snapCount by_ after.snapState) s

/-- The from source of a group in the new take (R132): an old take's target for a group completed onto it, otherwise the
source that the order names. -/
def joinSource (ts : List Take) (x : Nat × Source) : Source :=
  match ts.find? fun t => t.members.any fun m => m.group == x.1 && !(m.stage == .outgoing) with
  | some t => t.target
  | none => x.2

/-- A member record of the new take: CUT for a FALLBACK target, otherwise the group's kind (R129). -/
def newMember (s : State) (target : Source) (x : Nat × Source) : Member :=
  let mode := if target = .fallback then .cut else ((findGroup s.groups x.1).map (·.gdef.kind)).getD .cut
  ⟨x.1, x.2, mode, joinStage target x.2⟩

/-- The levels of two takes together, in rising order (R131, R132). -/
def levelUnion (xs ys : List Nat) : List Nat := [0, 1, 2, 3, 4].filter fun l => xs.contains l || ys.contains l

/-- A take that a supersede has emptied is closed as superseded: its levels pass to the new take, and TAKE_SETTLED
names the superseding take (R131, R132, R148). -/
def closeSuperseded (by_ : Nat) (s : State) (t : Take) : State :=
  let s := removeTake t.num s
  let s := updateTake by_ (fun n => { n with levels := levelUnion n.levels t.levels }) s
  let s := { s with arb := { s.arb with
    inService := s.arb.inService.map fun x => if x.2 = t.num then (x.1, by_) else x } }
  raise (.takeSettled t.num .superseded t.cause t.target t.levels (some by_) t.startBlock []) s

/-- The switch controller acts on an open order as one event (R131). (DEDUCED, unsafe: the order is log entry 11's.)
(DESIGN CHOICE, unsafe: R128 says of the ramp count and the settle countdown only the state that uses them; here both are
0 from the opening on until that state is reached, as QUERY TAKES shows them (log entry 21).) -/
def openTake (o : OpenOrder) (s : State) : State :=
  let num := takeNumber s.sw
  let names := o.members.map (·.1)
  let before := s.groups
  let joining := o.members.map fun x => (x.1, joinSource s.sw.takes x)
  let touched := s.sw.takes.filter fun t => t.members.any fun m => names.contains m.group
  let s := { s with sw := { s.sw with next := (num + 1) % 256 } }
  let s := touched.foldl (supersedeTake names num) s
  let s := lossReports before s
  let members := joining.map (newMember s o.target)
  let emptied := s.sw.takes.filter fun t => t.members.isEmpty
  let take : Take :=
    { num, levels := [o.level], cause := o.cause, rig := o.rig, target := o.target, members, dropped := [],
      blendLength := s.settings.blend * 32, settlePeriod := s.settings.settle, st := .waiting,
      startFrame := firstFrame (s.block + 1), wait := 0, engine := none, ramp := 0, settleCount := 0, due := none }
  let s := { s with sw := { s.sw with takes := insertTake take s.sw.takes } }
  let s := raise (.takeBegun num o.cause [o.level] o.target members (touched.map (·.num)) false []) s
  emptied.foldl (closeSuperseded num) s

/-! ## Boundary work (R133, R139, R140) -/

/-- The take can start at its start frame (R133). -/
def canStart (s : State) (t : Take) : Bool :=
  match t.target with
  | .fallback => true
  | .rig r =>
    (t.members.all fun m => m.stage == .incoming) ||
      (((s.tracker r).st == .ready || (s.tracker r).st == .verifying) && s.isPresent r t.startFrame)

/-- A take's work at a house block boundary (R133, R139, R140). WAITING: the start frame is the block's first, and the take
starts there or counts a wait. BLENDING: the frames of the block gone by have been output. SETTLING: the countdown
falls by 1. What has then fallen due is marked. (DESIGN CHOICE, unsafe: after a boundary without a start the start frame stays
that boundary's until the next one sets it, though R128 calls it the frame at which the next start is tried; QUERY TAKES shows
it (log entry 21).) -/
def takeBoundary (s : State) (t : Take) : Take :=
  match t.st with
  | .waiting =>
    let t := { t with startFrame := firstFrame s.block }
    if canStart s t then { t with due := some .start }
    else { t with wait := t.wait + 1, due := if Config.waitLimit ≤ t.wait + 1 then some .waitExpiry else none }
  | .blending =>
    let t := { t with ramp := min t.blendLength (firstFrame s.block - t.startFrame).toNat }
    if t.rampDone then { t with due := some .rampEnd } else t
  | .settling =>
    let n := t.settleCount - 1
    { t with settleCount := n, due := if n = 0 then some .settleEnd else none }
  | .closed => t

/-- Every take's boundary work. -/
def takesBoundary (s : State) : State := { s with sw := { s.sw with takes := s.sw.takes.map (takeBoundary s) } }

/-! ## Start, engines and ramp end (R135, R136, R139) -/

/-- Of two BLENDING takes, the one that R136 snaps: the earlier start frame, and of equals the one holding engine 0. -/
def snapFirst (t u : Take) : Take :=
  let d := frameDiff u.startFrame t.startFrame
  if d < 0 ∨ (d = 0 ∧ u.engine = some false) then u else t

/-- The BLENDING take to snap (R136). -/
def snapChoice (ts : List Take) : Option Take :=
  match ts.filter fun t => t.st == .blending with
  | [] => none
  | t :: us => some (us.foldl snapFirst t)

/-- The engine is free, or counts as free because its take has output all the frames of its ramp (R136). -/
def engineFree (ts : List Take) (e : Bool) : Bool := ts.all fun t => !(t.engine == some e) || t.rampDone

/-- A starting take is given an engine (R136): the lower-numbered free one, a complete ramp's end being taken at once;
otherwise the oldest BLENDING take is snapped and its engine handed over. -/
def assignEngine (starting : Nat) (s : State) : State × Option Bool :=
  let take (e : Bool) : State × Option Bool :=
    ({ s with sw := { s.sw with
        takes := s.sw.takes.map fun t => if t.engine = some e then t.settleNow else t } }, some e)
  if engineFree s.sw.takes false then take false
  else if engineFree s.sw.takes true then take true
  else
    match snapChoice s.sw.takes with
    | some t =>
      let snapped := (t.members.filter fun m => m.stage == .ramp).map (·.group)
      (raise (.takeSnapped t.num .engine snapped t.ramp starting .settling) (updateTake t.num Take.settleNow s), t.engine)
    | none => (s, none)

/-- A member at its take's start: OUTGOING becomes INCOMING for CUT and RAMP for BLEND (R135). -/
def Member.start (m : Member) : Member :=
  match m.stage, m.mode with
  | .outgoing, .cut => { m with stage := .incoming }
  | .outgoing, .blend => { m with stage := .ramp }
  | _, _ => m

/-- The take needs an engine at its start: some BLEND member is OUTGOING (R135). -/
def Take.needsEngine (t : Take) : Bool := t.members.any fun m => m.stage == .outgoing && m.mode == .blend

/-- A take starts (R135). -/
def startTake (t : Take) (s : State) : State :=
  if t.needsEngine then
    let x := assignEngine t.num s
    updateTake t.num (fun t => { t with st := .blending, members := t.members.map Member.start, engine := x.2,
                                        ramp := 0, due := none }) x.1
  else updateTake t.num (fun t => { t with members := t.members.map Member.start }.settleNow) s

/-- The take's start has fallen due (R133). -/
def Take.startDue (t : Take) : Bool := t.st == .waiting && t.due == some .start

/-- One take's start, when it has fallen due (R133, R135). -/
def startOne (s : State) (n : Nat) : State :=
  match findTake s.sw.takes n with
  | some t => if t.startDue then startTake t s else s
  | none => s

/-- The numbers of the takes up to n whose start has fallen due, in take-number order (R128, R136). -/
def dueStarts (ts : List Take) (n : Nat) : List Nat :=
  (ts.filter fun t => t.startDue && decide (t.num ≤ n)).map (·.num)

/-- TAKE_START: the take's start, when it has fallen due, after the starts of lower-numbered takes that are due at the
same boundary, one at a time in take-number order (R133, R135, R136). (DESIGN CHOICE: log entry 3.) -/
def takeStart (n : Nat) (s : State) : State :=
  match findTake s.sw.takes n with
  | some t => if t.startDue then (dueStarts s.sw.takes n).foldl startOne s else s
  | none => s

/-- RAMP_END: the take's ramp end, when it has fallen due (R139). -/
def rampEnd (n : Nat) (s : State) : State :=
  match findTake s.sw.takes n with
  | some t => if t.st = .blending ∧ t.due = some .rampEnd then updateTake n Take.settleNow s else s
  | none => s

end Sys2Proof.Machine
end

