-- ==== Sys2Proof/Machine/Arbiter.lean ====
section
/-! DEFINITION. The fault arbiter: the request set, the choice of target, the services, and the closures it is told of
(chapter 6). -/

namespace Sys2Proof.Machine

/-! ## Levels (R108) -/

/-- A detection as the cause of a request. -/
def Detection.cause : Detection → Cause
  | .link => .link
  | .stall => .stall
  | .slip => .slip
  | .beat => .beat

/-- The level that follows from a cause (R108). -/
def Cause.level : Cause → Nat
  | .link => 0
  | .stall => 1
  | .slip => 2
  | .beat => 3
  | .recover => 4
  | .manual => 4

/-- A detection's level (section 5.1). -/
def Detection.level (d : Detection) : Nat := d.cause.level

/-! ## The request set -/

/-- The state with its request set changed. -/
def State.onRequests (f : List Request → List Request) (s : State) : State :=
  { s with arb := { s.arb with requests := f s.arb.requests } }

/-- A request is stale (R112). -/
def stale (s : State) (q : Request) : Bool :=
  match q.cause with
  | .link => !carriesFollow s.groups q.rig || !((s.tracker q.rig).st == .offline)
  | .recover => (inDifficulty s.groups).isEmpty
  | _ => !carriesFollow s.groups q.rig || !((s.tracker q.rig).st == .failed)

/-- Stale requests are withdrawn (R112). -/
def withdrawStale (s : State) : State := s.onRequests fun qs => qs.filter fun q => !stale s q

/-- When a service opens for a rig, the rig's requests at its level or above are withdrawn (R112, R114). (DEDUCED,
unsafe: RECOVER requests too (log entry 11).) -/
def withdrawFrom (r : Rig) (level : Nat) (s : State) : State :=
  s.onRequests fun qs => qs.filter fun q => !(q.rig == r && decide (level ≤ q.level))

/-- A request is serviceable: nothing is in service, or its level is lower than every level in service (R111). -/
def serviceable (s : State) (q : Request) : Bool := s.arb.inService.all fun x => decide (q.level < x.1)

/-- The place of a rig in port order. -/
def portOrder : Rig → Nat
  | .A => 0
  | .B => 1
  | .C => 2

/-- The first request goes before the second: the lower level; at one level the rig with more FOLLOW groups; of equals
the rig first in port order (R111). -/
def goesBefore (gs : List Group) (p q : Request) : Bool :=
  let cp := (followOn gs p.rig).length
  let cq := (followOn gs q.rig).length
  decide (p.level < q.level ∨ (p.level = q.level ∧ (cq < cp ∨ (cp = cq ∧ portOrder p.rig < portOrder q.rig))))

/-- The request that an examination picks (R111). -/
def chooseRequest (s : State) : Option Request :=
  match s.arb.requests.filter (serviceable s) with
  | [] => none
  | q :: qs => some (qs.foldl (fun best p => if goesBefore s.groups p best then p else best) q)

/-! ## The target (R113) -/

/-- The first rig of the preference list that is READY, is not the faulted rig and is not dropped (R113). An EXCLUDED
rig is not READY. -/
def chooseTarget (s : State) (faulted : Option Rig) (dropped : List Rig) : Option Rig :=
  firstRig (fun r => (s.tracker r).st == .ready && !(faulted == some r) && !dropped.contains r) s.prefs

/-! ## Services -/

/-- A level put into the in-service set, which is kept in rising order of level. (DESIGN CHOICE: log entry 11.) -/
def insertLevel (x : Nat × Nat) : List (Nat × Nat) → List (Nat × Nat)
  | [] => [x]
  | y :: ys => if x.1 ≤ y.1 then x :: y :: ys else y :: insertLevel x ys

/-- A service opens a take, and its level enters the in-service set owned by that take (R114). -/
def openService (o : OpenOrder) (s : State) : State :=
  let num := takeNumber s.sw
  let s := openTake o s
  { s with arb := { s.arb with inService := insertLevel (o.level, num) s.arb.inService } }

/-- Members taken from their present sources (R114, R119, R121). -/
def presentMembers (gs : List Group) : List (Nat × Source) := gs.map fun g => (g.num, g.source)

/-- A detection service (R114, R115, R116): the state, and whether the service keeps its level. (DEDUCED: the groups a
NO_COVER names are log entry 11's.) -/
def serviceDetection (q : Request) (s : State) : State × Bool :=
  let groups := followOn s.groups q.rig
  match chooseTarget s (some q.rig) [] with
  | some t => (withdrawFrom q.rig q.level (openService ⟨q.level, q.cause, q.rig, .rig t, presentMembers groups⟩ s), true)
  | none =>
    if q.cause = .link then
      let s := raise (.noCover q.cause q.level q.rig .fallback (groups.map (·.num)) (some (takeNumber s.sw))) s
      (withdrawFrom q.rig q.level (openService ⟨q.level, q.cause, q.rig, .fallback, presentMembers groups⟩ s), true)
    else
      let s := raise (.noCover q.cause q.level q.rig .uncovered (groups.map (·.num)) none) (markUncovered q.rig s)
      (withdrawFrom q.rig q.level s, false)

/-- The UNCOVERED mark cleared on every group, FOLLOW or PINNED, of a RECOVER service's own target (R119, R157). -/
def clearUncovered (r : Rig) (s : State) : State :=
  { s with groups := s.groups.map fun g => if g.source == .rig r then { g with uncovered := false } else g }

/-- A RECOVER service (R119): the state, and whether the service keeps its level. -/
def serviceRecover (q : Request) (s : State) : State × Bool :=
  let affected := inDifficulty s.groups
  match chooseTarget s none [] with
  | none => (raise (.noCover q.cause q.level q.rig .unchanged (affected.map (·.num)) none) s, false)
  | some t =>
    let members := affected.filter fun g => !(g.source == .rig t)
    let s := clearUncovered t s
    if members.isEmpty then (s, false)
    else (openService ⟨q.level, q.cause, q.rig, .rig t, presentMembers members⟩ s, true)

/-- The service of a request (R113 to R119). -/
def service (q : Request) (s : State) : State × Bool :=
  if q.cause = .recover then serviceRecover q s else serviceDetection q s

/-- The services that an examination opens: each removes one request, so the fuel is their count (R111). -/
def serviceLoop : Nat → State → State
  | 0, s => s
  | n + 1, s =>
    let s := withdrawStale s
    match chooseRequest s with
    | none => s
    | some q =>
      let x := service q (s.onRequests fun qs => qs.filter fun p => !(p == q))
      if x.2 then x.1 else serviceLoop n x.1

/-- The arbiter examines its request set (R111): it opens services only while the transport is ROLLING. -/
def examine (s : State) : State :=
  if s.tr.st = .rolling then serviceLoop (s.arb.requests.length + 1) s else withdrawStale s

/-- A request arrives: added, or absorbed by one at the same level and rig; the set is then examined (R108). -/
def request (q : Request) (s : State) : State :=
  examine (if s.arb.requests.any fun p => p.level == q.level && p.rig == q.rig then s
    else s.onRequests fun qs => qs ++ [q])

/-- The conditions of R118 other than the rig. -/
def recoverOpen (s : State) : Bool :=
  s.settings.recover && s.tr.st == .rolling && !(s.arb.requests.any fun q => q.level == 4) &&
    !(s.arb.inService.any fun x => x.1 == 4) && !(inDifficulty s.groups).isEmpty

/-- A rig's tracker has entered READY (R78, R81): a RECOVER request when the conditions of R118 hold. -/
def readyArrival (r : Rig) (s : State) : State := if recoverOpen s then request ⟨4, r, .recover, s.block⟩ s else s

/-- The transport has reached ROLLING and the renewals have been examined: a RECOVER request naming the first rig that
R113 would accept, when the conditions hold; then the set is examined (R111, R118). -/
def rollArrival (s : State) : State :=
  match chooseTarget s none [] with
  | some r => examine (readyArrival r s)
  | none => examine s

/-- A take's close is reported: its levels leave the in-service set and the set is examined (R120). -/
def closeReport (num : Nat) (s : State) : State :=
  examine { s with arb := { s.arb with inService := s.arb.inService.filter fun x => !(x.2 == num) } }

/-- Every pending request is discarded (R123). -/
def discardRequests (s : State) : State := s.onRequests fun _ => []

end Sys2Proof.Machine
end

