-- ==== Sys2Proof/Machine/Closes.lean ====
section
/-! DEFINITION. The renewals of standing failures, and the closes of takes: settle end, re-choice and no-cover, spoil,
HALT and the end of a run (sections 5.6, 7.3, 7.6, 7.7 and 7.8). -/

namespace Sys2Proof.Machine

/-! ## The raising conditions and renewals (R103, R105) -/

/-- The outcome of a request decision: the first raising condition that fails, or REQUESTED (R103). -/
def decide103 (r : Rig) (d : Detection) (s : State) : FaultOutcome :=
  if s.tr.st = .rolling then
    if carriesFollow s.groups r then (if d.level < s.settings.threshold then .requested else .advisoryLevel)
    else .advisoryGroup
  else .advisoryState

/-- One standing failure renewed: only a REQUESTED outcome raises anything (R105). (DEDUCED, unsafe: the FAULT of a
renewed SLIP has no NOT_FOUND detail, whichever rule added its cause (log entry 9).) -/
def renewOne (r : Rig) (d : Detection) (s : State) : State :=
  if decide103 r d s = .requested then
    request ⟨d.level, r, d.cause, s.block⟩
      (raise (.fault r d false d.level .renewal false .requested (s.tracker r).causes) s)
  else s

/-- The tracker holds a cause. -/
def Tracker.holds (t : Tracker) : Detection → Bool
  | .link => false
  | .stall => t.causes.stall
  | .slip => t.causes.slip
  | .beat => t.causes.beat

/-- A standing cause of a FAILED tracker is renewed (R105). -/
def renewCause (r : Rig) (s : State) (d : Detection) : State :=
  if (s.tracker r).st = .failed ∧ (s.tracker r).holds d = true then renewOne r d s else s

/-- A tracker renews its standing failures: in FAILED its causes in the order STALL, SLIP, BEAT; in OFFLINE, when its rig
is the source of any group, a LINK condition (R105). -/
def renew (s : State) (r : Rig) : State :=
  match (s.tracker r).st with
  | .failed => [Detection.stall, .slip, .beat].foldl (renewCause r) s
  | .offline => if s.onAir r then renewOne r .link s else s
  | _ => s

/-! ## Closing one take -/

/-- TAKE_SETTLED for a take that has closed (R148). -/
def settledNotice (c : Close) (t : Take) (s : State) : NoticeBody :=
  .takeSettled t.num c t.cause t.target t.levels none t.startBlock (memberSources s.groups t.members)

/-- TAKE_SPOILED for a take that has been spoiled (R148). -/
def spoiledNotice (t : Take) (s : State) : NoticeBody :=
  .takeSpoiled t.num t.target t.st t.levels (t.completing.map (·.group)) (memberSources s.groups t.leaving)

/-- A take closes: the members that its state completes are completed and the loss reports follow, the record leaves the
table, its notice is raised, and the close is reported to the arbiter (R141, R142, R158). -/
def closeTake (notice : Take → State → NoticeBody) (t : Take) (s : State) : State :=
  let s := removeTake t.num (writeGroups (completeGroups t t.completing) s)
  closeReport t.num (raise (notice t s) s)

/-- SETTLE_END: the take's settle end, when it has fallen due (R140, R141). -/
def settleEnd (n : Nat) (s : State) : State :=
  match findTake s.sw.takes n with
  | some t => if t.st = .settling ∧ t.due = some .settleEnd then closeTake (settledNotice .settled) t s else s
  | none => s

/-! ## Spoil (R142, R143) -/

/-- The rigs that a spoil from WAITING leaves as from sources, in port order (R142). -/
def leftRigs (t : Take) : List Rig := Rig.all.filter fun r => t.leaving.any fun m => m.src == .rig r

/-- One open take spoiled, with its renewal reports (R142, R143). -/
def spoilTake (r : Rig) (s : State) (n : Nat) : State :=
  match findTake s.sw.takes n with
  | some t => if t.target = .rig r then (leftRigs t).foldl renew (closeTake spoiledNotice t s) else s
  | none => s

/-- A target fault spoils every open take whose target is the rig, in take-number order (R143). -/
def targetFault (r : Rig) (s : State) : State :=
  ((s.sw.takes.filter fun t => t.target == .rig r).map (·.num)).foldl (spoilTake r) s

/-! ## The fourth wait (R117, R134) -/

/-- The dropped set with one rig more, in port order. -/
def dropRig (dropped : List Rig) (r : Rig) : List Rig := Rig.all.filter fun x => dropped.contains x || x == r

/-- The re-choice of R117, by R113 for the take's own cause: the take's rig stands as the faulted rig, for RECOVER too,
and MANUAL's only candidate is the rig that has been dropped. (DEDUCED, unsafe: R117's words are taken over R113's for a
RECOVER take (log entry 11).) -/
def rechoose (s : State) (t : Take) (dropped : List Rig) : Option Rig :=
  if t.cause = .manual then none else chooseTarget s (some t.rig) dropped

/-- A take re-targeted (R134). -/
def Take.retarget (target : Source) (dropped : List Rig) (next : HouseFrame) (t : Take) : Take :=
  { t with
    target, dropped, wait := 0, due := none, startFrame := next
    members := t.members.map fun m =>
      { m with stage := joinStage target m.src, mode := if target = .fallback then .cut else m.mode } }

/-- The take in the table is re-targeted, and TAKE_BEGUN is raised with the retarget mark (R134, R147). -/
def retargetTake (target : Source) (dropped : List Rig) (t : Take) (s : State) : State :=
  let u := t.retarget target dropped (firstFrame (s.block + 1))
  raise (.takeBegun u.num u.cause u.levels u.target u.members [] true u.dropped) (updateTake t.num (fun _ => u) s)

/-- Members whose group is on the faulted rig are marked UNCOVERED (R117). -/
def markMembers (t : Take) (s : State) : State :=
  { s with groups := s.groups.map fun g =>
      if (t.members.any fun m => m.group == g.num) && g.source == .rig t.rig then { g with uncovered := true } else g }

/-- The groups of a take's members that stand on the faulted rig (R117, R157). -/
def memberGroupsOn (t : Take) (gs : List Group) : List Nat :=
  (gs.filter fun g => (t.members.any fun m => m.group == g.num) && g.source == .rig t.rig).map (·.num)

/-- A re-choice that finds no rig (R117): by cause, FALLBACK, or a no-cover close that marks UNCOVERED, or one that
writes no mark of its own; an INCOMING member is completed in each close (R134, R141). (DEDUCED, unsafe: R117's 'with its
mark as it was' is read of the members that are not completed, and what a NO_COVER names (log entry 11).) -/
def noRechoice (dropped : List Rig) (t : Take) (s : State) : State :=
  let numbers := t.members.map (·.group)
  match t.cause with
  | .link =>
    retargetTake .fallback dropped t
      (raise (.noCover t.cause t.cause.level t.rig .fallback numbers (some t.num)) s)
  | .recover | .manual =>
    closeTake (settledNotice .noCover) t
      (raise (.noCover t.cause t.cause.level t.rig .unchanged numbers (some t.num)) s)
  | _ =>
    closeTake (settledNotice .noCover) t
      (raise (.noCover t.cause t.cause.level t.rig .uncovered (memberGroupsOn t s.groups) (some t.num)) (markMembers t s))

/-- A take handed back for re-choice (R117, R134). -/
def rechoice (t : Take) (s : State) : State :=
  let dropped := match t.target with
    | .rig r => dropRig t.dropped r
    | .fallback => t.dropped
  match rechoose s t dropped with
  | some r => retargetTake (.rig r) dropped t s
  | none => noRechoice dropped t s

/-- TAKE_WAIT_EXPIRY: the fourth wait of a take, when it has fallen due (R134). -/
def takeWaitExpiry (n : Nat) (s : State) : State :=
  match findTake s.sw.takes n with
  | some t => if t.st = .waiting ∧ t.due = some .waitExpiry then rechoice t s else s
  | none => s

/-! ## HALT and the end of a run (R145) -/

/-- One take gone at a close-all, its members having been completed. -/
def closeNamed (c : Close) (s : State) (t : Take) : State :=
  let s := removeTake t.num s
  closeReport t.num (raise (settledNotice c t s) s)

/-- Every open take is closed at once (R145): the completions of all are one event at the output matrix (R158).
(DEDUCED, unsafe: the order is log entry 11's.) -/
def closeAll (c : Close) (s : State) : State :=
  let takes := s.sw.takes
  takes.foldl (closeNamed c) (writeGroups (fun gs => takes.foldl (fun gs t => completeGroups t t.completing gs) gs) s)

end Sys2Proof.Machine
end

