-- ==== Sys2Proof/Machine/Detect.lean ====
section
/-! DEFINITION. Detections: the entry to FAILED, the request decision, and the detections' own counters (chapter 5). -/

namespace Sys2Proof.Machine

/-- Entry to FAILED (R85, R90): CUED and the counts are cleared and the slip run returns to 0. The tap stays. -/
def Tracker.enterFailed (t : Tracker) : Tracker :=
  { t with st := .failed, cued := false, matchCount := 0, verify := 0, notFound := 0, slipRun := 0 }

/-- A detection's cause is added; a tracker not FAILED goes to FAILED (R92, R96, R97, R102). -/
def Tracker.fail (d : Detection) (t : Tracker) : Tracker :=
  let u := if t.st = .failed then t else t.enterFailed
  { u with causes := u.causes.add d }

/-- After the tracker has changed for a detection: target fault, decision, FAULT notice, request (R103, R106). -/
def detect (r : Rig) (d : Detection) (notFound : Bool) (s : State) : State :=
  let target := isTarget s.sw.takes r
  let s := if target then targetFault r s else s
  let outcome := decide103 r d s
  let s := raise (.fault r d notFound d.level .detection target outcome (s.tracker r).causes) s
  if outcome = .requested then request ⟨d.level, r, d.cause, s.block⟩ s else s

/-- What one event did to a tracker: its record after the event, whether a RIG_STATE is raised and with NOT_FOUND, a
detection to proceed with, and an arrival in READY. -/
structure TrackerStep where
  t : Tracker
  notify : Bool := false
  notFound : Bool := false
  detection : Option Detection := none
  ready : Bool := false
deriving DecidableEq, Repr

/-- The effects of a tracker's event on the part: record, RIG_STATE (R89), then the arrival in READY (R78, R81) or the
request decision (R103). `detail` is the NOT_FOUND detail of a FAULT. -/
def applyStep (r : Rig) (x : TrackerStep) (detail : Bool) (s : State) : State :=
  let s := s.setTracker r x.t
  let s := if x.notify then raiseRigState r x.notFound s else s
  let s := if x.ready then readyArrival r s else s
  match x.detection with
  | some d => detect r d detail s
  | none => s

/-! ## The beat balance (R100 to R102) -/

/-- A beat-interval expiry: the timer returns to 0 and the balance falls by 1 unless it is −9; the fall from −8 to −9
is a BEAT detection (R100, R102). (DEDUCED, unsafe: log entry 9.) -/
def beatExpiryStep (t : Tracker) : TrackerStep :=
  let u := { t with timer := some 0, beatDue := false }
  if t.balance ≤ -9 then ⟨u, false, false, none, false⟩
  else
    let v := { u with balance := t.balance - 1 }
    if t.balance = -8 then ⟨v.fail .beat, decide (v.fail .beat ≠ v), false, some .beat, false⟩
    else ⟨v, false, false, none, false⟩

/-- BEAT_INTERVAL_EXPIRY at one tracker, when it has fallen due (R100). -/
def beatExpiry (r : Rig) (s : State) : State :=
  if (s.tracker r).beatDue then applyStep r (beatExpiryStep (s.tracker r)) false s else s

/-- A Beat credited: up by 1 unless +8; reaching 0 clears a held BEAT (R101, R102). -/
def beatCreditStep (t : Tracker) : TrackerStep :=
  if 8 ≤ t.balance then ⟨t, false, false, none, false⟩
  else
    let u := { t with balance := t.balance + 1 }
    if u.balance = 0 ∧ u.causes.beat = true then ⟨clearCause .beat u, true, false, none, false⟩
    else ⟨u, false, false, none, false⟩

/-! ## The verify countdown (R82, R97) -/

/-- A verify span that has expired (R82, R97, R104): on air a SLIP detection with detail NOT_FOUND, of a tracker in
VERIFYING or of one that another detection of the same boundary took to FAILED first; off air VERIFYING goes to
SEARCHING. (DEDUCED, unsafe: in FAILED, off air nothing is left to do, and a RIG_STATE is raised only when SLIP was not
held (log entry 3).) -/
def verifyExpiryStep (onAir : Bool) (t : Tracker) : TrackerStep :=
  let u := { t with verifyDue := false }
  match t.st with
  | .verifying =>
    if onAir then ⟨u.fail .slip, true, true, some .slip, false⟩
    else ⟨{ u with st := .searching, notFound := 0 }, true, false, none, false⟩
  | .failed => if onAir then ⟨u.fail .slip, !t.causes.slip, true, some .slip, false⟩ else ⟨u, false, false, none, false⟩
  | _ => ⟨u, false, false, none, false⟩

/-- VERIFY_COUNTDOWN_EXPIRY at one tracker, when it has fallen due (R82). -/
def verifyExpiry (r : Rig) (s : State) : State :=
  if (s.tracker r).verifyDue then
    applyStep r (verifyExpiryStep (s.onAir r) (s.tracker r)) (s.onAir r) s
  else s

end Sys2Proof.Machine
end

