-- ==== Sys2Proof/Machine/Plan.lean ====
section
/-! DEFINITION. The position plan: its lookups (R24), the append with its vamp decisions and pendings (R26 to R28), and
the catch-up appends (R35, R37). -/

namespace Sys2Proof.Machine

/-- The state with its transport changed. -/
def State.onTr (f : Transport → Transport) (s : State) : State := { s with tr := f s.tr }

/-! ## Lookups (R24) -/

/-- The house position as a plan entry with no marks. -/
def State.housePlan (s : State) : Option PlanEntry :=
  match s.tr.house, s.houseEntry with
  | some p, some e => some ⟨p.index, e.code, p.offset, p.pass, {}⟩
  | _, _ => none

/-- The plan entry for a house block (R24). -/
def planAt (s : State) (b : HouseBlock) : Option PlanEntry :=
  if s.tr.st = .rolling ∧ s.tr.heard = true ∧ b = s.block then s.housePlan
  else
    let k := blockDiff b s.block - s.tr.countdown
    if 1 ≤ k then s.tr.plan[(k - 1).toNat]? else none

/-- The house block at which entry k of the plan, counting from 1 at the head, is heard (R24). -/
def heardAt (s : State) (countdown k : Nat) : HouseBlock := s.block + BitVec.ofNat 32 (countdown + k)

/-- The candidates of a search with the blocks at which they are heard, the nearest to the tail last (R24). (DEDUCED,
unsafe: log entry 10.) -/
def searchCandidates (s : State) : List (PlanEntry × HouseBlock) :=
  let house := if s.tr.st = .rolling then (s.housePlan.map fun p => (p, s.block)).toList else []
  house ++ s.tr.plan.zipIdx.map fun x => (x.1, heardAt s s.tr.countdown (x.2 + 1))

/-- Search for a triple: the block of the candidate nearest the tail (R24). -/
def searchPlan (s : State) (index pass offset : Nat) : Option HouseBlock :=
  ((searchCandidates s).filter fun x => x.1.index == index && x.1.pass == pass && x.1.offset == offset).getLast?.map
    (·.2)

/-- The newest position (R24): the tail entry, or the house position when the plan is empty. -/
def newestPosition (s : State) : Option PlanEntry :=
  match s.tr.plan.getLast? with
  | some e => some e
  | none => s.housePlan

/-! ## The append (R26 to R28) -/

/-- A park or end is pending (R28). -/
def Transport.pendingEnd (t : Transport) : Bool := t.parkPending || t.endPending

/-- An entry joins the tail and becomes the lead position (R26). -/
def Transport.push (e : PlanEntry) (t : Transport) : Transport :=
  { t with plan := t.plan ++ [e], lead := some ⟨⟨e.index, e.offset, e.pass⟩, e.marks⟩ }

/-- The mark LAST of the tail entry and of the lead position, set or cleared (R28, R35, R37). -/
def Transport.markLast (b : Bool) (t : Transport) : Transport :=
  { t with
    plan := t.plan.modify (t.plan.length - 1) fun e => { e with marks := { e.marks with last := b } }
    lead := t.lead.map fun l => { l with marks := { l.marks with last := b } } }

/-- Test 5 of R26: nothing is appended, and the pending of R28 is set. -/
def Transport.setPending (isEnd : Bool) (t : Transport) : Transport :=
  let t := t.markLast true
  if isEnd then { t with endPending := true } else { t with parkPending := true }

/-- The code of the set-list entry at an index. -/
def State.codeAt (s : State) (i : Nat) : Nat := ((s.setList[i]?).map (·.code)).getD 0

/-- The pass of the tail entry. -/
def Transport.tailPass (t : Transport) : Nat := ((t.plan.getLast?).map (·.pass)).getD 0

/-- VAMP_DECIDED for a decision just taken: the pass of the tail entry and the block at which it is heard (R27). -/
def raiseDecision (index code : Nat) (d : Decision) (countdown : Nat) (s : State) : State :=
  raise (.vampDecided index code d s.tr.tailPass (heardAt s countdown s.tr.plan.length)) s

/-- Tests 3 to 5 of R26 from lead position (i, o, p) in entry e. -/
def appendPlain (i o p : Nat) (e : SegmentEntry) (s : State) : State :=
  if o + 1 < e.length then s.onTr (·.push ⟨i, e.code, o + 1, p, {}⟩)
  else if e.endAction = .next ∧ i + 1 < s.setList.length then
    s.onTr (·.push ⟨i + 1, s.codeAt (i + 1), 0, 0, { segmentStart := true }⟩)
  else s.onTr (·.setPending (decide (i + 1 = s.setList.length)))

/-- An append taken while jump-pending is clear (R26, R27). (DEDUCED, unsafe: log entry 10.) -/
def appendNext (countdown : Nat) (l : LeadPos) (e : SegmentEntry) (s : State) : State :=
  let i := l.pos.index
  let o := l.pos.offset
  let p := l.pos.pass
  match e.vamp with
  | some v =>
    if o + 1 = v.vampOut then
      if s.tr.latch = false ∧ p + 1 < v.limit then
        raiseDecision i e.code .loop countdown
          (s.onTr (·.push ⟨i, e.code, v.vampIn, p + 1, { loop := true }⟩))
      else
        raiseDecision i e.code (if s.tr.latch then .release else .limit) countdown
          (appendPlain i o p e (s.onTr fun t => { t with latch := false }))
    else appendPlain i o p e s
  | none => appendPlain i o p e s

/-- An append taken while jump-pending is set writes the lead position into the plan (R26). -/
def appendJump (l : LeadPos) (s : State) : State :=
  s.onTr fun t =>
    { t.push ⟨l.pos.index, s.codeAt l.pos.index, l.pos.offset, 0,
        { jump := true, segmentStart := decide (l.pos.offset = 0) }⟩ with jumpPending := false }

/-- One append (R26); `countdown` is the start countdown that the event leaves, by which R24 places what is appended. -/
def append (countdown : Nat) (s : State) : State :=
  match s.tr.lead with
  | none => s
  | some l =>
    if s.tr.jumpPending then appendJump l s
    else
      match s.setList[l.pos.index]? with
      | some e => appendNext countdown l e s
      | none => s

/-- A boundary's append: none while a park or end is pending (R28). -/
def boundaryAppend (countdown : Nat) (s : State) : State := if s.tr.pendingEnd then s else append countdown s

/-- Catch-up appends, until the plan holds lead_blocks entries or a new pending is set (R35, R37). (DESIGN CHOICE,
safe: the fuel (log entry 10).) -/
def catchUp : Nat → State → State
  | 0, s => s
  | n + 1, s =>
    if s.tr.pendingEnd || decide (s.settings.lead ≤ s.tr.plan.length) then s else catchUp n (append s.tr.countdown s)

/-- The target position of a GO or LOCATE: pass 0, marked JUMP, and SEGMENT_START at offset 0 (R34, R37). -/
def jumpTarget (index offset : Nat) : LeadPos :=
  ⟨⟨index, offset, 0⟩, { jump := true, segmentStart := decide (offset = 0) }⟩

end Sys2Proof.Machine
end

