-- ==== Sys2Proof/Machine/Trackers.lean ====
section
/-! DEFINITION. The source trackers: link reports, block reports with the tag check and the lineup search, CUED, jumps and
arming (chapter 4, with the runs of chapter 5). -/

namespace Sys2Proof.Machine

/-- The tracker does tag work in this state (R68). -/
def TrackerSt.works : TrackerSt → Bool
  | .searching | .settling | .ready | .verifying => true
  | _ => false

/-! ## Link reports -/

/-- A LOCKED report (R66, R90). -/
def Tracker.locked (t : Tracker) : Tracker :=
  if t.st = .offline then
    { t with st := .searching, matchCount := 0, notFound := 0, balance := 0, timer := some 0, beatDue := false }
  else t

/-- The runs return to 0, the causes are emptied and the timer stops: entry to OFFLINE or EXCLUDED (R90). -/
def Tracker.clearDetectors (t : Tracker) : Tracker :=
  { t with badRun := 0, goodRun := 0, slipRun := 0, causes := {}, timer := none, beatDue := false, verifyDue := false }

/-- CUED and the three counts are cleared (R67, R86). -/
def Tracker.clearCounts (t : Tracker) : Tracker := { t with cued := false, matchCount := 0, verify := 0, notFound := 0 }

/-- A report that the link has gone DOWN (R67). -/
def Tracker.linkDown (t : Tracker) : Tracker :=
  if t.st = .excluded then t else { t.clearDetectors.clearCounts with st := .offline }

/-- The tracker goes to EXCLUDED (R86). -/
def Tracker.exclude (t : Tracker) : Tracker := { t.clearDetectors.clearCounts with st := .excluded }

/-- The tracker after a RESTART (R65). -/
def Tracker.restart (t : Tracker) : Tracker :=
  if t.st = .excluded then { Tracker.reset with st := .excluded } else Tracker.reset

/-! ## The tag check and the lineup search (R69 to R71) -/

/-- The result of a tag check (R69). -/
inductive Check where
  | match
  | offset (e : Int)
  | astray
  | beyond
deriving DecidableEq, Repr

/-- The tag check through a tap (R69). -/
def tagCheck (s : State) (tap : Nat) (stamp : HouseFrame) (tag : Tag) : Check :=
  let o := stamp + BitVec.ofNat 37 tap
  match planAt s (frameBlock o) with
  | none => .beyond
  | some p =>
    if tag.code ≠ p.code ∨ tag.pass ≠ p.pass then .astray
    else
      let e : Int := tag.offset - (p.offset * 32 + framePhase o : Nat)
      if e = 0 then .match else .offset e

/-- The lineup search: the tap at which the tag would MATCH, when it lies in 0..4,064 (R71). -/
def lineupSearch (s : State) (stamp : HouseFrame) (tag : Tag) : Option Nat :=
  match s.setList.findIdx? (fun e => e.code == tag.code) with
  | none => none
  | some i =>
    match searchPlan s i tag.pass (tag.offset / 32) with
    | none => none
    | some b =>
      let d := frameDiff (firstFrame b + BitVec.ofNat 37 (tag.offset % 32)) stamp
      if 0 ≤ d ∧ d ≤ Config.maxTap then some d.toNat else none

/-! ## Tag work by state (section 4.6) -/

/-- A search that finds nothing (R72): the count rises, and at the verify span the NOT_FOUND report is due. -/
def countNotFound (span : Nat) (t : Tracker) : Tracker × Bool :=
  if span ≤ t.notFound + 1 then ({ t with notFound := 0 }, true) else ({ t with notFound := t.notFound + 1 }, false)

/-- A GOOD unparked tag searched (R74, R76). `notify` says that the report has already changed what RIG_STATE shows. -/
def searchStep (s : State) (stamp : HouseFrame) (tag : Tag) (notify : Bool) (t : Tracker) : TrackerStep :=
  match lineupSearch s stamp tag with
  | some d => ⟨{ t with st := .settling, tap := d, matchCount := 0, notFound := 0 }, true, false, none, false⟩
  | none =>
    let x := countNotFound s.settings.verify t
    ⟨x.1, notify || x.2, x.2, none, false⟩

/-- A MATCH in SETTLING, READY or VERIFYING (R74, R75, R78, R81). -/
def matchStep (notify : Bool) (t : Tracker) : TrackerStep :=
  match t.st with
  | .settling =>
    if Config.settleMatches ≤ t.matchCount + 1 then
      ⟨{ t with st := .ready, matchCount := Config.settleMatches }, true, false, none, true⟩
    else ⟨{ t with matchCount := t.matchCount + 1 }, notify, false, none, false⟩
  | .verifying => ⟨{ t with st := .ready, verify := 0, verifyDue := false }, true, false, none, true⟩
  | _ => ⟨t, notify, false, none, false⟩

/-- The tap that a correction by e frames would give, when R74 allows it. -/
def correctedTap (tap : Nat) (e : Int) : Option Nat :=
  if e.natAbs ≤ Config.maxCorrection ∧ 0 ≤ (tap : Int) + e ∧ (tap : Int) + e ≤ Config.maxTap then
    some ((tap : Int) + e).toNat
  else none

/-- The match count returns to 0 in SETTLING (R68, R74, R75). -/
def Tracker.breakMatches (t : Tracker) : Tracker := if t.st = .settling then { t with matchCount := 0 } else t

/-- A check result in SETTLING, READY or VERIFYING at a tap that may change (R74). A parked tag is not searched.
(DEDUCED, unsafe: a tracker that goes to SEARCHING keeps its match count and its verify countdown, from SETTLING too
when the search finds nothing (log entry 8).) -/
def freeStep (s : State) (stamp : HouseFrame) (tag : Tag) (parked : Bool) (c : Check) (notify : Bool) (t : Tracker) :
    TrackerStep :=
  let lost : Tracker := { t with st := .searching, notFound := 0, verifyDue := false }
  let goSearching : TrackerStep :=
    if parked then ⟨lost, true, false, none, false⟩ else searchStep s stamp tag true lost
  match c with
  | .match => matchStep notify t
  | .offset e =>
    match correctedTap t.tap e with
    | some d => ⟨{ t.breakMatches with tap := d }, notify, false, none, false⟩
    | none => goSearching
  | _ => goSearching

/-- The slip run after a check result at a frozen tap (R95). -/
def slipRunAfter (window run : Nat) : Check → Nat
  | .match => 0
  | .offset e => if e.natAbs ≤ window then 0 else run + 1
  | _ => run + 1

/-- A check result that did not pass, at a frozen tap, after the state's own work: the slip run is judged, and at 4 a
SLIP detection is made (R95, R96). -/
def slipStep (s : State) (c : Check) (x : TrackerStep) : TrackerStep :=
  let run := slipRunAfter s.settings.slipWindow x.t.slipRun c
  if Config.slipLimit ≤ run then { x with t := x.t.fail .slip, notify := true, detection := some .slip }
  else { x with t := { x.t with slipRun := run } }

/-- A check result in SETTLING, READY or VERIFYING at a frozen tap (R75). -/
def frozenStep (s : State) (c : Check) (notify : Bool) (t : Tracker) : TrackerStep :=
  match c with
  | .match => matchStep notify { t with slipRun := 0 }
  | _ => slipStep s c ⟨t.breakMatches, notify, false, none, false⟩

/-- A GOOD unparked tag in SEARCHING at a frozen tap (R77). (DEDUCED: log entry 8.) -/
def frozenSearchStep (s : State) (c : Check) (notify : Bool) (t : Tracker) : TrackerStep :=
  match c with
  | .match => ⟨{ t with st := .settling, matchCount := 0, slipRun := 0 }, true, false, none, false⟩
  | _ =>
    let x := countNotFound s.settings.verify t
    slipStep s c ⟨x.1, notify || x.2, x.2, none, false⟩

/-- Tag work on a GOOD tag while STARTING or ROLLING (R68, R74 to R77, R95). (DEDUCED, unsafe: a parked tag in
SEARCHING changes nothing (log entry 8).) -/
def runningStep (s : State) (r : Rig) (stamp : HouseFrame) (tag : Tag) (parked : Bool) (notify : Bool) (t : Tracker) :
    TrackerStep :=
  let c := if parked then .astray else tagCheck s t.tap stamp tag
  if t.st = .searching then
    if parked then ⟨t, notify, false, none, false⟩
    else if s.tapFree r then searchStep s stamp tag notify { t with slipRun := 0 }
    else frozenSearchStep s c notify t
  else if s.tapFree r then freeStep s stamp tag parked c notify { t with slipRun := 0 }
  else frozenStep s c notify t

/-- A parked tag matches the house position (R79). -/
def cuedMatch (s : State) (tag : Tag) : Bool :=
  match s.tr.house, s.houseEntry with
  | some p, some e => tag.code == e.code && tag.offset == p.offset * 32 && tag.pass == 0
  | _, _ => false

/-- The CUED comparison of a GOOD report while PARKED; an unparked one clears the mark (R68, R79). -/
def cuedStep (s : State) (tag : Tag) (parked : Bool) (notify : Bool) (t : Tracker) : TrackerStep :=
  let cued := parked && cuedMatch s tag
  ⟨{ t with cued }, notify || t.cued != cued, false, none, false⟩

/-- The tracker's action on a GOOD report (R68). -/
def goodStep (s : State) (r : Rig) (stamp : HouseFrame) (tag : Tag) (parked : Bool) (notify : Bool) (t : Tracker) :
    TrackerStep :=
  if t.st.works then
    match s.tr.st with
    | .rolling => runningStep s r stamp tag parked notify t
    | .starting => if parked then ⟨t, notify, false, none, false⟩ else runningStep s r stamp tag false notify t
    | .parked => cuedStep s tag parked notify t
    | _ => ⟨t, notify, false, none, false⟩
  else ⟨t, notify, false, none, false⟩

/-! ## Block reports (R54, R68, R91 to R93) -/

/-- A block report's verdict (R54); GOOD carries the tag and the PARKED flag. -/
inductive Verdict where
  | missing | early | badTag | misaligned | repeated
  | good (tag : Tag) (parked : Bool)
deriving DecidableEq, Repr

/-- A bad block counted: the third in a row is a STALL unless STALL is held (R91, R92). -/
def badStep (t : Tracker) : TrackerStep :=
  let u := { t.breakMatches with badRun := min (t.badRun + 1) Config.stallRun, goodRun := 0 }
  if t.badRun + 1 = Config.stallRun ∧ t.causes.stall = false then ⟨u.fail .stall, true, false, some .stall, false⟩
  else ⟨u, false, false, none, false⟩

/-- A GOOD report counted: the 32nd in a row clears a held STALL (R91, R93). The flag says that it did. -/
def goodCount (t : Tracker) : Tracker × Bool :=
  let u := { t with goodRun := min (t.goodRun + 1) Config.clearRun, badRun := 0 }
  if t.goodRun + 1 = Config.clearRun ∧ t.causes.stall = true then (clearCause .stall u, true) else (u, false)

/-- What a block report does to a tracker (R68, R91). -/
def reportStep (s : State) (r : Rig) (stamp : HouseFrame) (v : Verdict) (t : Tracker) : TrackerStep :=
  match v with
  | .good tag parked => let x := goodCount t; goodStep s r stamp tag parked x.2 x.1
  | _ => badStep t

/-- The port hands its tracker a block report; none while EXCLUDED (R54). -/
def blockReport (r : Rig) (stamp : HouseFrame) (v : Verdict) (s : State) : State :=
  let t := s.tracker r
  if t.st = .excluded ∨ t.st = .offline then s else applyStep r (reportStep s r stamp v t) false s

/-! ## Events that the transport hands to every tracker -/

/-- CUED is cleared at one tracker; a mark that was set raises a RIG_STATE (R80). -/
def clearCued (s : State) (r : Rig) : State :=
  if (s.tracker r).cued then raiseRigState r false (s.setTracker r { s.tracker r with cued := false }) else s

/-- CUED is cleared at every tracker, in port order (R80). -/
def clearAllCued (s : State) : State := Rig.all.foldl clearCued s

/-- The house has consumed a JUMP (R81). -/
def jumpTracker (s : State) (r : Rig) : State :=
  let t := s.tracker r
  match t.st with
  | .ready => raiseRigState r false (s.setTracker r { t with st := .verifying, verify := s.settings.verify, verifyDue := false })
  | .verifying => s.setTracker r { t with verify := s.settings.verify, verifyDue := false }
  | _ => s

/-- Every tracker is told of a consumed jump, in port order (R30, R81). -/
def jumpAll (s : State) : State := Rig.all.foldl jumpTracker s

/-- A tracker at ARM (R84). -/
def Tracker.arm (t : Tracker) : Tracker :=
  match t.st with
  | .ready | .verifying => { t with cued := false, st := .searching, notFound := 0, verify := 0, verifyDue := false }
  | .settling => { t with cued := false, matchCount := 0 }
  | _ => { t with cued := false }

/-- ARM at one tracker; a change of state or of CUED raises one RIG_STATE (R84). -/
def armTracker (s : State) (r : Rig) : State :=
  let t := s.tracker r
  let u := t.arm
  let s := s.setTracker r u
  if t.st ≠ u.st ∨ t.cued ≠ u.cued then raiseRigState r false s else s

/-- ARM at every tracker, in port order. -/
def armAll (s : State) : State := Rig.all.foldl armTracker s

/-! ## Boundary work of the trackers (R82, R100) -/

/-- The verify countdown of a VERIFYING tracker falls by 1; when it has reached 0 its expiry is due (R82). -/
def Tracker.verifyBoundary (t : Tracker) : Tracker :=
  if t.st = .verifying then { t with verify := t.verify - 1, verifyDue := decide (t.verify ≤ 1) } else t

/-- The beat-interval timer rises by 1; when it has reached the interval its expiry is due (R100). -/
def Tracker.beatBoundary (interval : Nat) (t : Tracker) : Tracker :=
  match t.timer with
  | some n => { t with timer := some (n + 1), beatDue := decide (interval ≤ n + 1) }
  | none => t

/-- Every tracker's record changed. -/
def State.onTrackers (f : Tracker → Tracker) (s : State) : State :=
  { s with trackers := ⟨f s.trackers.a, f s.trackers.b, f s.trackers.c⟩ }

end Sys2Proof.Machine
end

