-- ==== Sys2Proof/Machine/Press.lean ====
section
/-! DEFINITION. GO and RELEASE, as commands and as presses (R34, R35, R39, R43, R44). -/

namespace Sys2Proof.Machine

/-- A TRANSPORT notice: the reason, with state, position and start cause as they stand (R46). -/
def raiseTransport (reason : TransportReason) (s : State) : State :=
  raise (.transport reason s.tr.st s.tr.house s.tr.cause) s

/-- Some tracker holds CUED (R34). -/
def State.anyCued (s : State) : Bool := Rig.all.any s.isCued

/-- GO in PARKED with a CUED rig (R34). -/
def goParked (src : PressSource) (s : State) : State :=
  let s := goReassign s
  raiseTransport .go (s.onTr fun t =>
    { t with
      st := .starting
      lead := t.house.map fun p => jumpTarget p.index p.offset
      jumpPending := true
      countdown := s.settings.lead
      latch := false
      cause := some ⟨.go, src, s.block⟩
      heard := false })

/-- The entry that a cancelled park continues with (R35). -/
def parkSuccessor (s : State) (i : Nat) : PlanEntry := ⟨i + 1, s.codeAt (i + 1), 0, 0, { segmentStart := true }⟩

/-- GO in ROLLING with park-pending set: the park is cancelled and catch-up appends are made (R35). -/
def goCancel (src : PressSource) (s : State) : State :=
  let s := s.onTr fun t => { t.markLast false with parkPending := false, cause := some ⟨.go, src, s.block⟩ }
  match s.tr.lead with
  | some l => catchUp Config.ringSlots (s.onTr (·.push (parkSuccessor s l.pos.index)))
  | none => s

/-- GO (R34, R35): as the desk command, or as a press from another source. -/
def goWork (src : PressSource) (s : State) : State × Result :=
  match s.tr.st with
  | .parked => if s.anyCued then (goParked src s, .accepted) else (s, .noSource)
  | .rolling => if s.tr.parkPending then (goCancel src s, .accepted) else (s, .wrongState)
  | _ => (s, .wrongState)

/-- RELEASE would be taken (R39). -/
def releasable (s : State) : Bool :=
  (s.tr.st == .starting || s.tr.st == .rolling) && !s.tr.pendingEnd &&
    (match s.tr.lead with
     | some l =>
       match (s.setList[l.pos.index]?).bind (·.vamp) with
       | some v => decide (l.pos.offset < v.vampOut)
       | none => false
     | none => false)

/-- RELEASE (R39): sets the latch and the start cause, unless the latch is already set. -/
def releaseWork (src : PressSource) (s : State) : State × Result :=
  if releasable s then
    if s.tr.latch then (s, .accepted)
    else (s.onTr fun t => { t with latch := true, cause := some ⟨.release, src, s.block⟩ }, .accepted)
  else (s, .wrongState)

/-- The trigger enable of a press source (R43). -/
def enabled (t : Triggers) : PressSource → Bool
  | .desk => true
  | .cueLine => t.cueLine
  | .rig .A => t.rigA
  | .rig .B => t.rigB
  | .rig .C => t.rigC

/-- A press (R43). -/
def press (src : PressSource) (s : State) : State :=
  if enabled s.settings.triggers src then
    match s.tr.st with
    | .parked => if s.anyCued then (goWork src s).1 else raise (.noSource src) s
    | .rolling => if s.tr.parkPending then (goWork src s).1 else if releasable s then (releaseWork src s).1 else s
    | _ => s
  else s

/-! ## The cue input (R41) -/

/-- The debounce time in blocks (R41). -/
def debounceBlocks (x : Settings) : Nat := blocksOfMs x.rate x.debounce

/-- The cue input sampled at a boundary: a differing level counts, an equal one returns the count to 0 (R41). -/
def cueSample (sample : Level) (s : State) : State :=
  s.onTr fun t => { t with cueCount := if sample = t.cueLevel then 0 else t.cueCount + 1 }

/-- The other level of the line. -/
def otherLevel : Level → Level
  | .low => .high
  | .high => .low

/-- The count has reached the debounce time (R41). (DESIGN CHOICE, unsafe: no due mark is kept, so a change of the debounce
setting or the house rate that comes between the sample and CUE_DEBOUNCE_EXPIRY returns the count to 0 and the level change
that had fallen due does not happen (log entry 3).) -/
def cueDue (s : State) : Bool := decide (debounceBlocks s.settings ≤ s.tr.cueCount)

/-- CUE_DEBOUNCE_EXPIRY: the recognised level changes, the count returns to 0, and LOW to HIGH is a press (R41). -/
def cueDebounce (s : State) : State :=
  if cueDue s then
    let was := s.tr.cueLevel
    let s := s.onTr fun t => { t with cueLevel := otherLevel t.cueLevel, cueCount := 0 }
    if was = .low then press .cueLine s else s
  else s

/-! ## Rig cues (R42) -/

/-- A checked Block's CUE flag: a rise is a press, and the remembered flag takes the value (R42). While the rig's tracker
is EXCLUDED the flag is not handed over and the remembered flag is unknown (R53). -/
def rigCue (r : Rig) (cue : Bool) (s : State) : State :=
  if s.isExcluded r then s.setRigCue r none
  else
    let was := s.tr.rigCue.get r
    let s := s.setRigCue r (some cue)
    if cue && was == some false then press (.rig r) s else s

end Sys2Proof.Machine
end

