-- ==== Sys2Proof/Machine/Ports.lean ====
section
/-! DEFINITION. The rig link ports: classification, the link state, arrival and stamping, expiry, silence, Beats, Reference
messages and the change of rate (chapter 3). -/

namespace Sys2Proof.Machine

/-! ## Messages (R48, R53) -/

/-- The fields of a well-formed Block, less its samples. -/
structure BlockHead where
  flags : Byte
  code : Nat
  offset : Nat
  pass : Nat
  channels : Nat
  /-- The tag's check agrees and its fields lie in range (R53). -/
  tagOk : Bool
deriving DecidableEq, Repr

/-- The tag passes its check (R53). -/
def tagPasses (tagBytes : List Byte) (c1 c2 : Byte) (code offset pass : Nat) : Bool :=
  decide (crcBytes (crc16 tagBytes) = [c1, c2] ∧ code ≤ 999 ∧ offset ≤ 134217695 ∧ pass ≤ 254)

/-- A well-formed Block: kind H'B1, a channel count of at least 1 and a length of 12 + 96 × n bytes (R48). -/
def blockHead : List Byte → Option (BlockHead × List Byte)
  | k :: fl :: a :: b :: c :: d :: e :: f :: p :: n :: x :: y :: samples =>
    if k = 0xB1 ∧ n ≠ 0 ∧ samples.length = 96 * n.toNat then
      some (⟨fl, be2 a b, be4 c d e f, p.toNat, n.toNat,
        tagPasses [fl, a, b, c, d, e, f, p, n] x y (be2 a b) (be4 c d e f) p.toNat⟩, samples)
    else none
  | _ => none

/-- A well-formed Beat: kind H'B2, 5 bytes, its check agreeing (R48); the answer is its code. (DEDUCED, unsafe: a code
above 999 is kept (log entry 6).) -/
def beatCode? : List Byte → Option Nat
  | [k, a, b, x, y] => if k = 0xB2 ∧ crcBytes (crc16 [k, a, b]) = [x, y] then some (be2 a b) else none
  | _ => none

/-- The samples of a byte list, three bytes each. -/
def samplesOf : List Byte → List Int
  | a :: b :: c :: bs => sample3 a b c :: samplesOf bs
  | _ => []

/-- A sample list cut into frames of n samples, of which the first `keep` are kept (R56). -/
def framesOf (n keep : Nat) : Nat → List Int → List (List Int)
  | 0, _ => []
  | k + 1, xs => (xs.take n).take keep :: framesOf n keep k (xs.drop n)

/-- The audio that a Block's record keeps: channels 1..min n 64 of 32 frames (R55, R56). -/
def audioOf (n : Nat) (samples : List Byte) : Audio :=
  ⟨min n Config.channels, framesOf n (min n Config.channels) Config.blockFrames (samplesOf samples)⟩

/-- The CUE flag of the rig flags. -/
def BlockHead.cue (h : BlockHead) : Bool := h.flags.getLsbD 1

/-- The PARKED flag of the rig flags. -/
def BlockHead.parked (h : BlockHead) : Bool := h.flags.getLsbD 0

/-- The tag's position. -/
def BlockHead.tag (h : BlockHead) : Tag := ⟨h.code, h.offset, h.pass⟩

/-! ## The link state (R49, R50, R63) -/

/-- The link has just reached LOCKED: the tracker takes the LOCKED report, and one RIG_STATE names both (R49, R63, R66). -/
def linkLocked (r : Rig) (s : State) : State :=
  raiseRigState r false (s.setTracker r (s.tracker r).locked)

/-- The port's part of a link going DOWN (R50): the delay line and the last Beat code stay. -/
def Port.down (p : Port) : Port :=
  { p with link := .down, acquire := 0, expected := none, lastArrival := none, prevTag := none }

/-- The port's part of a change of rate (R64): its cold-start values, less the Reference it sent last. -/
def Port.rateChange (p : Port) : Port := { Port.reset with lastRef := p.lastRef }

/-- A link goes DOWN (R50, R64): the port, the tracker (R67), the remembered CUE flag (R42), one RIG_STATE when the
link state changed (R63), and the LINK detection when the tracker was online (R94). (DEDUCED, unsafe: log entry 7.) -/
def dropLink (f : Port → Port) (r : Rig) (s : State) : State :=
  let p := s.port r
  let t := s.tracker r
  let s := ((s.setPort r (f p)).setRigCue r none).setTracker r t.linkDown
  let s := if p.link = .down then s else raiseRigState r false s
  if t.st = .excluded ∨ t.st = .offline then s else detect r .link false s

/-- Every link goes DOWN at a change of the house rate, in port order (R64). (DEDUCED: log entry 7.) -/
def dropAllLinks (s : State) : State := Rig.all.foldl (fun s r => dropLink Port.rateChange r s) s

/-- The silence limit has been reached (R50). -/
def silent (s : State) (r : Rig) : Bool :=
  match (s.port r).link, (s.port r).lastArrival with
  | .down, _ => false
  | _, some a => decide (Config.silenceFrames ≤ frameDiff s.now a)
  | _, none => false

/-- SILENCE_LIMIT, when it has been reached (R50). -/
def silenceLimit (r : Rig) (s : State) : State := if silent s r then dropLink Port.down r s else s

/-! ## Slots (R52, R55) -/

/-- One new slot record, in place of the oldest when the ring is full (R55). -/
def Port.write (rec : SlotRecord) (p : Port) : Port := { p with line := (rec :: p.line).take Config.ringSlots }

/-- The port's part of an expiry: a missing record at E, E advances by 32, and an ACQUIRING count returns to 0 (R52). -/
def Port.expire (e : HouseFrame) (p : Port) : Port :=
  { p.write ⟨e, none⟩ with
    expected := some (e + 32)
    acquire := if p.link = .acquiring then 0 else p.acquire }

/-- The slot for E has expired: the frame number is E + 9 or later (R52). (DEDUCED, unsafe: log entry 6.) -/
def expired (s : State) (r : Rig) : Option HouseFrame :=
  match (s.port r).link, (s.port r).expected with
  | .down, _ => none
  | _, some e => if (Config.window : Int) + 1 ≤ frameDiff s.now e then some e else none
  | _, none => none

/-- One slot's expiry (R52): the record, and a MISSING report when the link is LOCKED. -/
def expireSlot (r : Rig) (e : HouseFrame) (s : State) : State :=
  let locked := (s.port r).link = .locked
  let s := s.setPort r ((s.port r).expire e)
  if locked then blockReport r e .missing s else s

/-- SLOT_EXPIRY, when the slot for E has expired (R52). -/
def slotExpiry (r : Rig) (s : State) : State :=
  match expired s r with
  | some e => expireSlot r e s
  | none => s

/-- The expiries that a late Block finds (R52). -/
def expireLate (r : Rig) : Nat → State → State
  | 0, s => s
  | n + 1, s =>
    match expired s r with
    | some e => expireLate r n (expireSlot r e s)
    | none => s

/-! ## Blocks (R49, R51, R53, R54) -/

/-- The timing result of a Block (R51). -/
inductive Timing where
  | first | inPlace | early
deriving DecidableEq, Repr

/-- The stamp of a Block arriving now (R51). -/
def stampOf (p : Port) (now : HouseFrame) : HouseFrame × Timing :=
  match p.link, p.expected with
  | .down, _ => (now, .first)
  | _, none => (now, .first)
  | _, some e => if -(Config.window : Int) ≤ frameDiff now e then (e, .inPlace) else (now, .early)

/-- The link state and acquire count after a Block (R49). -/
def acquireStep (p : Port) (t : Timing) : Link × Nat :=
  match p.link, t with
  | .down, _ => (.acquiring, 1)
  | .acquiring, .inPlace =>
    if Config.acquireCount ≤ p.acquire + 1 then (.locked, Config.acquireCount) else (.acquiring, p.acquire + 1)
  | .acquiring, _ => (.acquiring, 1)
  | .locked, _ => (.locked, p.acquire)

/-- The port after a Block: written, stamped and its tag kept when it passed (R51, R53, R55). -/
def Port.takeBlock (h : BlockHead) (samples : List Byte) (now stamp : HouseFrame) (t : Timing) (p : Port) : Port :=
  let x := acquireStep p t
  { p.write ⟨stamp, some (audioOf h.channels samples)⟩ with
    link := x.1
    acquire := x.2
    expected := some (stamp + 32)
    lastArrival := some now
    prevTag := if h.tagOk then some h.tag else p.prevTag }

/-- The verdict of a Block's report (R54). -/
def verdictOf (h : BlockHead) (t : Timing) (prev : Option Tag) : Verdict :=
  if t = .early then .early
  else if !h.tagOk then .badTag
  else if h.offset % 32 ≠ 0 then .misaligned
  else if !h.parked && prev == some h.tag then .repeated
  else .good h.tag h.parked

/-- A well-formed Block is taken (R49, R51, R53, R54): stamped and written; a change of link state reported; the tag read;
the block report handed over when the link is LOCKED. -/
def placeBlock (r : Rig) (h : BlockHead) (samples : List Byte) (s : State) : State :=
  let p := s.port r
  let x := stampOf p s.now
  let q := p.takeBlock h samples s.now x.1 x.2
  let s := s.setPort r q
  let s := if q.link = p.link then s else if q.link = .locked then linkLocked r s else raiseRigState r false s
  let s := if h.tagOk then rigCue r h.cue s else s
  if q.link = .locked then blockReport r x.1 (verdictOf h x.2 p.prevTag) s else s

/-- A well-formed Block arrives: a silence limit already passed comes first, then the expiries it finds (R50, R52).
(DEDUCED, unsafe: the order is log entry 6's.) -/
def takeBlock (r : Rig) (h : BlockHead) (samples : List Byte) (s : State) : State :=
  let overdue := match (s.port r).lastArrival with
    | some a => decide ((Config.silenceFrames : Int) < frameDiff s.now a)
    | none => false
  let s := if overdue then silenceLimit r s else s
  placeBlock r h samples (expireLate r 8 s)

/-! ## Beats (R60) -/

/-- A well-formed Beat is taken (R60, R101). (DEDUCED, unsafe: a Beat takes the link as it stands and does not first
carry out a silence limit that has been passed or a late slot, as a Block does (log entry 6).) -/
def takeBeat (r : Rig) (code : Nat) (s : State) : State :=
  let s := s.setPort r { s.port r with beatCode := some code }
  let t := s.tracker r
  if (s.port r).link = .locked ∧ t.st ≠ .excluded then applyStep r (beatCreditStep t) false s else s

/-- A message arrives at a rig link port: a well-formed Block, a well-formed Beat, or discarded (R48). -/
def rigMessage (r : Rig) (bytes : List Byte) (s : State) : State :=
  match blockHead bytes with
  | some (h, samples) => takeBlock r h samples s
  | none =>
    match beatCode? bytes with
    | some c => takeBeat r c s
    | none => s

/-! ## Reference messages (R61) -/

/-- The transport state that a Reference names: at the boundary whose countdown has reached 0 the change to ROLLING is
that boundary's work (R29, R61). (DEDUCED, unsafe: log entry 4.) -/
def referenceState (t : Transport) : TState := if t.st = .starting ∧ t.countdown = 0 then .rolling else t.st

/-- The Reference of a rig at this boundary (R61). -/
def referenceOf (s : State) (r : Rig) : Reference :=
  ⟨s.block, referenceState s.tr, newestPosition s, s.role r, s.settings.beat, s.settings.lead⟩

/-- Each port sends its rig one Reference (R61). (DESIGN CHOICE, unsafe: before any row of the same boundary acts (log entry
4).) -/
def sendReferences (s : State) : State :=
  let send (r : Rig) : Port := { s.port r with lastRef := some (referenceOf s r) }
  { s with ports := ⟨send .A, send .B, send .C⟩ }

end Sys2Proof.Machine
end

