-- ==== Sys2Proof/Machine/Transport.lean ====
section
/-! DEFINITION. The transport's commands other than GO and RELEASE, the end of a run, the re-resolution after an edit and
the transport's boundary work (chapter 2). -/

namespace Sys2Proof.Machine

/-! ## ARM and DISARM (R32, R33) -/

/-- ARM when taken (R32): positions, groups, trackers, timecode, then PARKED and its notice. -/
def armTaken (s : State) : State :=
  let s := s.onTr fun t =>
    { t with
      st := .parked, house := some ⟨0, 0, 0⟩, lead := none, jumpPending := false, plan := [], latch := false
      parkPending := false, endPending := false, cause := none }
  let s := armAll (placeAll s.armSource s)
  raiseTransport .arm (s.onTc fun t => startHeld (setJump t))

/-- ARM (R32). -/
def armWork (s : State) : State × Result :=
  if s.tr.st = .idle then
    if s.setList.isEmpty || s.groups.isEmpty then (s, .badValue) else (armTaken s, .accepted)
  else (s, .wrongState)

/-- The transport goes to IDLE and its house position becomes absent (R33, R40). -/
def Transport.toIdle (t : Transport) : Transport := { t with st := .idle, house := none }

/-- Every group to FALLBACK as the transport goes to IDLE, and the timecode stops (R33, R40, R163, R164). (DEDUCED:
CUED stays (log entry 19).) -/
def goIdle (s : State) : State := (placeAll .fallback (s.onTr Transport.toIdle)).onTc tcIdle

/-- DISARM (R33). -/
def disarmWork (s : State) : State × Result :=
  match s.tr.st with
  | .parked | .ended => (raiseTransport .disarm (goIdle s), .accepted)
  | .idle => (s, .accepted)
  | _ => (s, .wrongState)

/-! ## Stopping a run (R31, R38) -/

/-- The transport's fields when a run stops: plan, lead, countdown, latch and pendings cleared (R31, R38). -/
def Transport.stop (st : TState) (house : Option Pos) (t : Transport) : Transport :=
  { t with
    st, house, lead := none, jumpPending := false, plan := [], countdown := 0, latch := false, parkPending := false
    endPending := false, heard := false }

/-- What the stop of a run does beyond the transport's own fields: CUED cleared, every take closed, every request
discarded, the held-message timer started, the click grid absent (R31, R38, R80, R123, R145, R164, R166). (DEDUCED,
unsafe: the order is log entry 12's.) -/
def stopRun (st : TState) (house : Option Pos) (c : Close) (s : State) : State :=
  let s := discardRequests (closeAll c (clearAllCued (s.onTr (·.stop st house))))
  { s.onTc startHeld with grid := none }

/-- HALT (R38). -/
def haltWork (s : State) : State × Result :=
  match s.tr.st with
  | .starting | .rolling =>
    (raiseTransport .halt (stopRun .parked (s.tr.house.map fun p => { p with pass := 0 }) .halt s), .accepted)
  | _ => (s, .accepted)

/-- The end of a run at a boundary (R31). -/
def runEnd (s : State) : State :=
  if s.tr.parkPending then
    raiseTransport .park
      ((stopRun .parked (s.tr.house.map fun p => ⟨p.index + 1, 0, 0⟩) .endOfRun s).onTc setJump)
  else raiseTransport .endOfRun ((stopRun .ended s.tr.house .endOfRun s).onTc setJump)

/-! ## LOCATE and HOME (R36, R37) -/

/-- LOCATE in PARKED and ENDED (R36). -/
def locateStopped (index offset : Nat) (s : State) : State :=
  let s := clearAllCued (s.onTr fun t => { t with st := .parked, house := some ⟨index, offset, 0⟩ })
  raiseTransport .locate (s.onTc setJump)

/-- LOCATE in STARTING (R37). (DESIGN CHOICE, unsafe: at countdown 0, with the change to ROLLING due and not yet taken, too:
the countdown starts again and the change that was due is not made (log entry 3).) -/
def locateStarting (index offset : Nat) (s : State) : State :=
  let s := s.onTr fun t =>
    { t with
      plan := [], house := some ⟨index, offset, 0⟩, lead := some (jumpTarget index offset), jumpPending := true
      countdown := s.settings.lead, latch := false, parkPending := false, endPending := false }
  raiseTransport .locate (s.onTc setJump)

/-- LOCATE in ROLLING (R37): the target waits for the next append, or is appended at once when a park or end was
pending. -/
def locateRolling (index offset : Nat) (s : State) : State :=
  let target (t : Transport) : Transport :=
    { t with lead := some (jumpTarget index offset), jumpPending := true, latch := false }
  let s :=
    if s.tr.pendingEnd then
      catchUp Config.ringSlots
        (s.onTr fun t => target { t.markLast false with parkPending := false, endPending := false })
    else s.onTr target
  raiseTransport .locate s

/-- The target lies in the set list (R36). -/
def inSetList (s : State) (index offset : Nat) : Bool :=
  match s.setList[index]? with
  | some e => decide (offset < e.length)
  | none => false

/-- LOCATE, and HOME as LOCATE (0, 0) (R36, R37). (DESIGN CHOICE, unsafe: at countdown 0 it acts as in STARTING (log entry
3).) -/
def locateWork (index offset : Nat) (s : State) : State × Result :=
  if s.tr.st = .idle then (s, .wrongState)
  else if !inSetList s index offset then (s, .badValue)
  else
    match s.tr.st with
    | .starting => (locateStarting index offset s, .accepted)
    | .rolling => (locateRolling index offset s, .accepted)
    | _ => (locateStopped index offset s, .accepted)

/-! ## Edits (R40) -/

/-- An edit report's kind (R7 to R10, R40). -/
inductive Edit where
  | append (index : Nat)
  | replace (index : Nat)
  | drop (index : Nat)
  | clear
deriving DecidableEq, Repr

/-- Condition 3 of R40. -/
def Edit.disturbs (h : Nat) : Edit → Bool
  | .replace i => i == h
  | .drop i => decide (i ≤ h)
  | _ => false

/-- A re-resolution that moves the house position: CUED cleared, the jump flag set, EDIT raised (R40, R163). -/
def resolveTo (st : TState) (p : Pos) (s : State) : State :=
  raiseTransport .edit ((clearAllCued (s.onTr fun t => { t with st, house := some p })).onTc setJump)

/-- The re-resolution of the house position after an edit made in PARKED or ENDED (R40). -/
def resolveAt (e : Edit) (p : Pos) (s : State) : State :=
  match s.setList.getLast? with
  | none => raiseTransport .edit (clearAllCued (goIdle s))
  | some last =>
    match s.setList[p.index]? with
    | none => resolveTo .ended ⟨s.setList.length - 1, last.length - 1, 0⟩ s
    | some x =>
      if e.disturbs p.index || decide (x.length ≤ p.offset) then resolveTo s.tr.st ⟨p.index, 0, 0⟩ s else s

/-- An edit report (R40): made in PARKED and ENDED alone. -/
def editReport (e : Edit) (s : State) : State :=
  if s.tr.st = .parked ∨ s.tr.st = .ended then
    match s.tr.house with
    | some p => resolveAt e p s
    | none => s
  else s

/-! ## Boundary work (R29, R30) -/

/-- The head entry is dequeued and its marks are acted on (R30). -/
def dequeue (e : PlanEntry) (rest : List PlanEntry) (s : State) : State :=
  let s := s.onTr fun t => { t with house := some ⟨e.index, e.offset, e.pass⟩, plan := rest, heard := true }
  let s := if e.marks.segmentStart then raise (.segmentStart e.index e.code e.marks.jump) s else s
  let s := if e.marks.jump then jumpAll s else s
  s.onTc (tcDequeue (s.houseEntry.any fun x => x.timecode.isSome) e.marks)

/-- The transport's work at a boundary while STARTING (R29). The entry appended is placed by the countdown that the
boundary leaves (R24). (DEDUCED, unsafe: log entry 4.) -/
def startingBoundary (s : State) : State :=
  (boundaryAppend (s.tr.countdown - 1) s).onTr fun t => { t with countdown := t.countdown - 1 }

/-- The trackers' verify countdowns at a boundary while ROLLING; one that ends the run has left ROLLING by then. A boundary that consumes a JUMP has just set every
running countdown, and the countdown runs from the next boundary (R81, R82). (DEDUCED, unsafe: log entry 4.) -/
def verifyBoundary (jump : Bool) (s : State) : State := if jump then s else s.onTrackers Tracker.verifyBoundary

/-- The transport's work at a boundary while ROLLING (R30, R31). -/
def rollingBoundary (s : State) : State :=
  match s.tr.plan with
  | [] => runEnd s
  | e :: rest => verifyBoundary e.marks.jump (boundaryAppend 0 (dequeue e rest s))

/-- The transport's work at a house block boundary (R21, R29, R30). -/
def transportBoundary (s : State) : State :=
  match s.tr.st with
  | .starting => startingBoundary s
  | .rolling => rollingBoundary s
  | _ => s

/-! ## The start countdown (R29) -/

/-- The start countdown has reached 0 (R29). (DESIGN CHOICE, unsafe: from that boundary until START_COUNTDOWN_EXPIRY is taken
the transport is still STARTING for every command, Block and query that comes between (log entry 3).) -/
def startDue (s : State) : Bool := s.tr.st == .starting && s.tr.countdown == 0

/-- START_COUNTDOWN_EXPIRY (R29): ROLLING, its notice, the renewals in port order (R104, R105), then the RECOVER test
(R118) and the examination (R111). (DEDUCED, unsafe: the notice with reason ROLL comes before the FAULT notices of the
renewals (log entry 12).) -/
def startCountdown (s : State) : State :=
  if startDue s then
    rollArrival (Rig.all.foldl renew
      (raiseTransport .roll (s.onTr fun t => { t with st := .rolling, heard := false })))
  else s

end Sys2Proof.Machine
end

