-- ==== Sys2Proof/Machine/Boundary.lean ====
section
/-! DEFINITION. The house block boundary, the steps that fall due at it, and the output frame. -/

namespace Sys2Proof.Machine

/-! ## Steps still due -/

/-- A tracker's expiries that are still due: verify span, then beat interval. -/
def forceTracker (s : State) (r : Rig) : State := beatExpiry r (verifyExpiry r s)

/-- The step of one take that is still due. -/
def forceTake (s : State) (n : Nat) : State :=
  match (findTake s.sw.takes n).bind (·.due) with
  | some .start => takeStart n s
  | some .waitExpiry => takeWaitExpiry n s
  | some .rampEnd => rampEnd n s
  | some .settleEnd => settleEnd n s
  | none => s

/-- Everything that fell due at the last boundary and was not taken since, in a fixed order (DESIGN CHOICE): the start
countdown, the cue press, the trackers in port order, the takes in take-number order, the held message. It is taken at
the latest before the block's first output frame, or before the next boundary. (DESIGN CHOICE, unsafe: log entry 3.)
-/
def forceDue (s : State) : State :=
  let s := Rig.all.foldl forceTracker (cueDebounce (startCountdown s))
  formHeld ((s.sw.takes.map (·.num)).foldl forceTake s)

/-! ## The boundary (R21) -/

/-- The beat-interval timers at a boundary (R100). -/
def beatBoundary (s : State) : State :=
  s.onTrackers (Tracker.beatBoundary (blocksOfMs s.settings.rate s.settings.beat))

/-- The house block number advances and the block's first frame is the next to be output (R21). (DESIGN CHOICE: log
entry 5.) -/
def nextBlock (s : State) : State := { s with block := s.block + 1, phase := 0 }

/-- HOUSE_BLOCK_BOUNDARY (R21): a new house block; held-message timer, transport, cue input, beat timers, takes, click
grid and References. What falls due is then taken by its own step. (DESIGN CHOICE, unsafe: the order is log entry
4's. The References, which R61 orders after R29 to R31 alone, are formed before those steps: their state and role do not
show a cue press, a settle end, a detection or a service that falls due at this boundary (log entry 4).) -/
def boundary (cue : Level) (s : State) : State :=
  let s := transportBoundary (heldBoundary (nextBlock (forceDue s)))
  sendReferences (deriveGrid (takesBoundary (beatBoundary (cueSample cue s))))

/-! ## The output frame (R152) -/

/-- The sample of a RAMP member (R137). -/
def blendSample (length k : Nat) (out incoming : Int) : Int :=
  let gIn : Int := (32768 * (k + 1) / length : Nat)
  (out * (32768 - gIn) + incoming * gIn + 16384).fdiv 32768

/-- A member's sample by its stage (R138). A ramp whose frames have all been output gives the target's sample (R139).
(DEDUCED: past its ramp a RAMP member reads the incoming source (log entry 5).) -/
def memberSample (s : State) (g : Group) (c : Nat) (t : Take) (m : Member) : Int :=
  match m.stage with
  | .outgoing => s.sourceSample g c m.src
  | .incoming => s.sourceSample g c t.target
  | .ramp =>
    if t.blendLength ≤ t.ramp then s.sourceSample g c t.target
    else blendSample t.blendLength t.ramp (s.sourceSample g c m.src) (s.sourceSample g c t.target)

/-- The open take and member record of a group (R129: at most one). -/
def memberOf (ts : List Take) (n : Nat) : Option (Take × Member) :=
  ts.findSome? fun t => (t.members.find? fun m => m.group == n).map fun m => (t, m)

/-- A group's sample for one of its channels (R152). -/
def groupSample (s : State) (g : Group) (c : Nat) : Int :=
  match memberOf s.sw.takes g.num with
  | some (t, m) => memberSample s g c t m
  | none => s.sourceSample g c g.source

/-- The program sample of a channel: 0 when no group covers it (R152). -/
def programSample (s : State) (c : Nat) : Int :=
  match s.groups.find? fun g => g.gdef.covers c with
  | some g => groupSample s g c
  | none => 0

/-- The ramp count of a BLENDING take rises by the frame just output (R137). -/
def Take.rampFrame (t : Take) : Take :=
  if t.st = .blending then { t with ramp := min t.blendLength (t.ramp + 1) } else t

/-- The 64 program samples of the frame at this phase (R152). -/
def programFrame (s : State) : List Int := (List.range Config.channels).map fun i => programSample s (i + 1)

/-- The frame at this phase is output: the program samples, the running Time message (R162), then the ramps and the phase
move on. -/
def formFrame (s : State) : State :=
  let s := formRunning { s with program := programFrame s }
  { s with
    phase := s.phase + 1
    sw := { s.sw with takes := s.sw.takes.map Take.rampFrame } }

/-- OUTPUT_FRAME (R152): the next frame of the block is output. What fell due at the boundary comes before any frame
of the block. A block has 32 frames: after the last of them the next frame belongs to the next boundary. (DESIGN
CHOICE: no frame after the 32nd (log entry 5).) -/
def outputFrameWork (s : State) : State := if s.phase < Config.blockFrames then formFrame (forceDue s) else s

end Sys2Proof.Machine
end

