-- ==== Sys2Proof/Machine/Encode.lean ====
section
/-! DEFINITION. The messages that the PF3 sends, as bytes: desk-link frames with their Reply and Notice payloads (R171 to
R178), Reference messages (section 3.2) and Time messages (section 9.2). -/

namespace Sys2Proof.Machine

/-! ## Fields -/

/-- A house block number. -/
def blockBytes (b : HouseBlock) : List Byte := num4 b.toNat

/-- A house position: index, offset, pass (R171). -/
def Pos.bytes (p : Pos) : List Byte := num1 p.index ++ num4 p.offset ++ num1 p.pass

/-- A timecode value: hours, minutes, seconds, frames (R171). -/
def tcBytes (v : TcValue) : List Byte := num1 v.hours ++ num1 v.minutes ++ num1 v.seconds ++ num1 v.frames

/-- The vamp part, with a presence byte for its pass limit (R171). -/
def Vamp.bytes (v : Vamp) : List Byte := num4 v.vampIn ++ num4 v.vampOut ++ optBytes num1 v.passLimit

/-- The tempo part (R4). -/
def Tempo.bytes (t : Tempo) : List Byte := num2 t.tempo ++ num1 t.beats ++ num4 t.downbeat

/-- The timecode part (R5). -/
def TcPart.bytes (t : TcPart) : List Byte := tcBytes t.start ++ num1 t.rate

/-- A segment entry, with one presence byte for each optional part (R171). -/
def SegmentEntry.bytes (e : SegmentEntry) : List Byte :=
  num2 e.code ++ num4 e.length ++ [e.endAction.byte] ++ optBytes Vamp.bytes e.vamp ++ optBytes Tempo.bytes e.tempo ++
    optBytes TcPart.bytes e.timecode

/-- A group definition, less its number (R149). -/
def groupDefBytes (d : GroupDef) : List Byte :=
  num1 d.first ++ num1 d.last ++ [d.kind.byte, d.fallback.byte, d.follow.byte]

/-- The start cause record (R44). -/
def StartCause.bytes (c : StartCause) : List Byte := [c.action.byte, c.source.byte] ++ blockBytes c.block

/-- The settings of R19's table. -/
def Settings.bytes (s : Settings) : List Byte :=
  num4 s.rate.frames ++ num1 s.lead ++ num1 s.debounce ++ [s.triggers.byte] ++ num1 s.verify ++ num1 s.slipWindow ++
    num2 s.beat ++ num1 s.threshold ++ [onOffByte s.recover] ++ num1 s.blend ++ num2 s.settle

/-- A list of rigs. -/
def prefsBytes (rs : List Rig) : List Byte := listBytes (fun r => [r.byte]) rs

/-- The (level, owning take) pairs of the in-service set, which R174 calls a list; R177's set is sent the same way. (DEDUCED,
unsafe: log entry 14.) -/
def inServiceBytes (xs : List (Nat × Nat)) : List Byte := listBytes (fun x => num1 x.1 ++ num1 x.2) xs

/-- A member record: group, from source, mode, stage (R129). -/
def Member.bytes (m : Member) : List Byte := num1 m.group ++ [m.src.byte, m.mode.byte, m.stage.byte]

/-- A last take record (R149). (DEDUCED, unsafe: its house block, 'or none', is an optional field (log entry 14).) -/
def LastTake.bytes (l : LastTake) : List Byte :=
  num1 l.take ++ [l.cause.takeByte, l.src.byte, l.dst.byte] ++ optBytes blockBytes l.start

/-- A blend engine's number. -/
def engineBytes (e : Bool) : List Byte := num1 e.toNat

/-- A take record in R128's order; its start frame as the house block it begins (R177). (DEDUCED, unsafe: R128's engine, '0, 1
or none', is an optional number, a presence byte and then the engine, and not one choice byte of three; the member records are a
list with its count byte (log entry 14).) -/
def Take.bytes (t : Take) : List Byte :=
  num1 t.num ++ [levelsByte t.levels, t.cause.takeByte, t.rig.byte, t.target.byte] ++ listBytes Member.bytes t.members ++
    [rigsByte t.dropped] ++ num2 t.blendLength ++ num2 t.settlePeriod ++ [t.st.byte] ++
    blockBytes (frameBlock t.startFrame) ++ num1 t.wait ++ optBytes engineBytes t.engine ++ num2 t.ramp ++
    num2 t.settleCount

/-- A request of the arbiter query (R177). -/
def Request.bytes (q : Request) : List Byte := num1 q.level ++ [q.rig.byte, q.cause.requestByte] ++ blockBytes q.block

/-- A (group, source) pair. -/
def groupSourceBytes (x : Nat × Source) : List Byte := num1 x.1 ++ [x.2.byte]

/-! ## Queries, Replies, Notices -/

/-- A query's record, its fields in R177's order. (DEDUCED, unsafe: the lead position is an optional triple without its
marks, and the jump-pending byte follows it always; the request set, the in-service set and the take records are lists, each
with its count byte, though R177 says 'each' and 'every' and not list; an engine's holder is an optional number (log entry
14).) -/
def QueryRecord.bytes : QueryRecord → List Byte
  | .entry e => e.bytes
  | .group g =>
    num1 g.num ++ groupDefBytes g.gdef ++ [g.source.byte, flagByte g.uncovered] ++ optBytes LastTake.bytes g.last
  | .rig r =>
    [r.link.byte] ++ num1 r.acquire ++ [r.st.byte] ++ num2 r.tap ++ [flagByte r.cued] ++ num1 r.matchCount ++
      num1 r.verify ++ num1 r.notFound ++ [r.causes.byte] ++ num1 r.badRun ++ num1 r.goodRun ++ num1 r.slipRun ++
      signed1 r.balance ++ optBytes num2 r.beatCode ++ [r.role.byte]
  | .transport t =>
    blockBytes t.block ++ [t.st.byte] ++ optBytes Pos.bytes t.house ++ optBytes Pos.bytes t.lead ++
      [flagByte t.jumpPending] ++ num1 t.planCount ++ num1 t.countdown ++
      [flagByte t.latch, flagByte t.parkPending, flagByte t.endPending] ++ optBytes StartCause.bytes t.cause ++
      num1 t.leadBlocks ++ [t.cueLevel.byte]
  | .arbiter requests inService threshold recover prefs =>
    listBytes Request.bytes requests ++ inServiceBytes inService ++ num1 threshold ++ [onOffByte recover] ++
      prefsBytes prefs
  | .takes next e0 e1 table =>
    num1 next ++ optBytes num1 e0 ++ optBytes num1 e1 ++ listBytes Take.bytes table
  | .settings s prefs => s.bytes ++ prefsBytes prefs

/-- The summary class byte (section 10.2). -/
def Summary.classByte : Summary → Byte
  | .none => 0
  | .setList _ _ _ => 1
  | .transport _ _ _ => 2
  | .source _ _ => 3
  | .settings _ _ => 4
  | .query _ => 5

/-- A summary's fields (R174). (DEDUCED, unsafe: the groups of a source summary are a list, with its count byte (log
entry 14).) -/
def Summary.bytes : Summary → List Byte
  | .none => []
  | .setList count cond unstored => num1 count ++ [cond.byte, flagByte unstored]
  | .transport st house cause => [st.byte] ++ optBytes Pos.bytes house ++ optBytes StartCause.bytes cause
  | .source groups inService =>
    listBytes (fun g => num1 g.1 ++ [g.2.1.byte, flagByte g.2.2]) groups ++ inServiceBytes inService
  | .settings s prefs => s.bytes ++ prefsBytes prefs
  | .query r => r.bytes

/-- One desk-link frame: start byte, length, kind, payload, check over bytes 1..(2 + n) (section 10.1). -/
def deskFrameBytes (kind : Byte) (payload : List Byte) : List Byte :=
  let body := num2 (payload.length + 1) ++ kind :: payload
  0xA5 :: (body ++ crcBytes (crc16 body))

/-- A Reply's frame (R172, section 10.2). -/
def Reply.frame (r : Reply) : List Byte :=
  deskFrameBytes 0x80 ([r.kind, r.result.byte, r.summary.classByte] ++ r.summary.bytes)

/-- A Notice's kind value (section 10.5). -/
def NoticeBody.kind : NoticeBody → Byte
  | .rigState .. => 0x01
  | .fault .. => 0x02
  | .takeBegun .. => 0x03
  | .takeSnapped .. => 0x04
  | .takeSettled .. => 0x05
  | .takeSpoiled .. => 0x06
  | .noCover .. => 0x07
  | .transport .. => 0x08
  | .segmentStart .. => 0x09
  | .vampDecided .. => 0x0A
  | .stored .. => 0x0B
  | .storeFailed .. => 0x0C
  | .noSource .. => 0x0D

/-- A Notice's body fields, in the order of the rule that section 10.5 names for its kind. (DEDUCED, unsafe: a FAULT's
NOT_FOUND detail, and the superseding take's number that TAKE_SETTLED gives for SUPERSEDED, are optional fields, whose
presence byte is always sent; the members, groups and takes that a body names are lists, each with its count byte; a field
given 'or none' or 'or absent', and TRANSPORT's start cause, is an optional field (log entry 14).) -/
def NoticeBody.bytes : NoticeBody → List Byte
  | .rigState rig link st cued tap causes notFound =>
    [rig.byte, link.byte, st.byte, flagByte cued] ++ num2 tap ++ [causes.byte, flagByte notFound]
  | .fault rig detection notFound level origin targetFault outcome causes =>
    [rig.byte, detection.byte] ++ optBytes (fun _ => [0]) (if notFound then some () else none) ++ num1 level ++
      [origin.byte, flagByte targetFault, outcome.byte, causes.byte]
  | .takeBegun num cause levels target members superseded retarget dropped =>
    num1 num ++ [cause.takeByte, levelsByte levels, target.byte] ++ listBytes Member.bytes members ++
      listBytes num1 superseded ++ [flagByte retarget, rigsByte dropped]
  | .takeSnapped num reason groups ramp by_ after =>
    num1 num ++ [reason.byte] ++ listBytes num1 groups ++ num2 ramp ++ num1 by_ ++ [after.afterByte]
  | .takeSettled num close cause target levels by_ start members =>
    num1 num ++ [close.byte, cause.takeByte, target.byte, levelsByte levels] ++ optBytes num1 by_ ++
      optBytes blockBytes start ++ listBytes groupSourceBytes members
  | .takeSpoiled num target state levels completed left =>
    num1 num ++ [target.byte, state.byte, levelsByte levels] ++ listBytes num1 completed ++
      listBytes groupSourceBytes left
  | .noCover cause level rig outcome groups take =>
    [cause.requestByte] ++ num1 level ++ [rig.byte, outcome.byte] ++ listBytes num1 groups ++ optBytes num1 take
  | .transport reason st house cause =>
    [reason.byte, st.byte] ++ optBytes Pos.bytes house ++ optBytes StartCause.bytes cause
  | .segmentStart index code jump => num1 index ++ num2 code ++ [flagByte jump]
  | .vampDecided index code decision pass heardAt =>
    num1 index ++ num2 code ++ [decision.byte] ++ num1 pass ++ blockBytes heardAt
  | .stored count cond unstored => num1 count ++ [cond.byte, flagByte unstored]
  | .storeFailed reason cond unstored => [reason.byte, cond.byte, flagByte unstored]
  | .noSource source => [source.byte]

/-- A Notice's frame (R178, section 10.5): the flags byte has bit 0 LOST. -/
def Notice.frame (n : Notice) : List Byte :=
  deskFrameBytes 0x90 ([n.body.kind] ++ blockBytes n.block ++ [flagByte n.lost] ++ n.body.bytes)

/-- The frame on the transmit line, when it is sending (R179). -/
def Desk.lineFrame (d : Desk) : Option (List Byte) :=
  match d.line with
  | .idle => none
  | .reply => d.replies.head?.map Reply.frame
  | .notice n => some n.frame

/-! ## Reference and Time messages -/

/-- A Reference message, 22 bytes (section 3.2, R61). -/
def Reference.message (r : Reference) : List Byte :=
  let position := match r.position with
    | none => [0, 0] ++ num2 0 ++ num4 0 ++ [0, 0]
    | some p => [1] ++ num1 p.index ++ num2 p.code ++ num4 p.offset ++ num1 p.pass ++ [p.marks.byte]
  let body := 0xC1 :: (blockBytes r.block ++ [r.st.byte] ++ position ++ [r.role.byte] ++ num2 r.beat ++ num1 r.lead)
  body ++ crcBytes (crc16 body)

/-- A Time message, 11 bytes (section 9.2). -/
def TimeMsg.message (m : TimeMsg) : List Byte :=
  let body := 0xD1 :: m.flags :: (tcBytes m.value ++ num1 m.rate ++ num2 m.code)
  body ++ crcBytes (crc16 body)

end Sys2Proof.Machine
end

