-- ==== Sys2Proof/Machine/StoreImage.lean ====
section
/-! DEFINITION. The stored copy as bytes: the working contents written in R14's order, and read back. -/

namespace Sys2Proof.Machine

/-- A numbered group definition of the stored copy (R13). -/
def storedGroupBytes (g : Nat × GroupDef) : List Byte := num1 g.1 ++ groupDefBytes g.2

/-- The stored copy in the order in which it is written: the count, the entries in index order, the group definitions
in group number order, the preference list, then the settings (R14). (DEDUCED and PRESUMED, unsafe: the layout is log
entry 13's.) -/
def Contents.bytes (c : Contents) : List Byte :=
  listBytes SegmentEntry.bytes c.setList ++ listBytes storedGroupBytes c.groups ++ prefsBytes c.prefs ++
    c.settings.bytes

/-- A whole intact copy with its check (R14). -/
def Contents.copy (c : Contents) : StoredCopy := ⟨c.bytes, some (crc16 c.bytes)⟩

/-! ## Readers of the fields -/

/-- A rig or source (R171). -/
def readSource : Reader Source := readChoice [.rig .A, .rig .B, .rig .C, .fallback]

/-- A rig of the stored preference list. -/
def readRig : Reader Rig := readChoice [.A, .B, .C]

/-- A timecode value (R171). -/
def readTc : Reader TcValue := fun bs => do
  let (h, bs) ← read1 bs
  let (m, bs) ← read1 bs
  let (s, bs) ← read1 bs
  let (f, bs) ← read1 bs
  return (⟨h, m, s, f⟩, bs)

/-- The vamp part: vamp-in, vamp-out, optional pass limit. -/
def readVamp : Reader (Nat × Nat × Option Nat) := fun bs => do
  let (i, bs) ← read4 bs
  let (o, bs) ← read4 bs
  let (p, bs) ← readOpt read1 bs
  return ((i, o, p), bs)

/-- The tempo part: tempo, beats per bar, downbeat. -/
def readTempo : Reader (Nat × Nat × Nat) := fun bs => do
  let (t, bs) ← read2 bs
  let (b, bs) ← read1 bs
  let (d, bs) ← read4 bs
  return ((t, b, d), bs)

/-- The timecode part: start, rate. -/
def readTcPart : Reader (TcValue × Nat) := fun bs => do
  let (v, bs) ← readTc bs
  let (r, bs) ← read1 bs
  return ((v, r), bs)

/-- A segment entry's fields, with one presence byte for each optional part (R171). -/
def readEntry : Reader EntryFields := fun bs => do
  let (code, bs) ← read2 bs
  let (length, bs) ← read4 bs
  let (endAction, bs) ← readChoice [EndAction.next, EndAction.park] bs
  let (v, bs) ← readOpt readVamp bs
  let (t, bs) ← readOpt readTempo bs
  let (c, bs) ← readOpt readTcPart bs
  return ({ code, length, endAction,
            vampIn := v.map (·.1), vampOut := v.map (·.2.1), passLimit := v.bind (·.2.2),
            tempo := t.map (·.1), beats := t.map (·.2.1), downbeat := t.map (·.2.2),
            tcStart := c.map (·.1), tcRate := c.map (·.2) }, bs)

/-- A group definition, less its number. (DEDUCED, unsafe: SET GROUP's optional definition does not repeat the number that
its first operand gives (log entry 14).) -/
def readGroupDef : Reader GroupDef := fun bs => do
  let (first, bs) ← read1 bs
  let (last, bs) ← read1 bs
  let (kind, bs) ← readChoice [GroupKind.blend, GroupKind.cut] bs
  let (fallback, bs) ← readChoice [FallbackKind.silence, FallbackKind.click] bs
  let (followKind, bs) ← readChoice [FollowKind.follow, FollowKind.pinned] bs
  return (⟨first, last, kind, fallback, followKind⟩, bs)

/-- A numbered group definition. -/
def readStoredGroup : Reader (Nat × GroupDef) := fun bs => do
  let (n, bs) ← read1 bs
  let (d, bs) ← readGroupDef bs
  return ((n, d), bs)

/-- The trigger enables: a bit beyond the four members fails (R171). -/
def readTriggers : Reader Triggers
  | a :: bs =>
    if a.toNat < 16 then some (⟨a.getLsbD 0, a.getLsbD 1, a.getLsbD 2, a.getLsbD 3⟩, bs) else none
  | [] => none

/-- On or off (R125). -/
def readOnOff : Reader Bool := readChoice [true, false]

/-- The settings of R19's table. -/
def readSettings : Reader Settings := fun bs => do
  let (rate, bs) ← read4 bs
  let rate ← rateOf rate
  let (lead, bs) ← read1 bs
  let (debounce, bs) ← read1 bs
  let (triggers, bs) ← readTriggers bs
  let (verify, bs) ← read1 bs
  let (slipWindow, bs) ← read1 bs
  let (beat, bs) ← read2 bs
  let (threshold, bs) ← read1 bs
  let (recover, bs) ← readOnOff bs
  let (blend, bs) ← read1 bs
  let (settle, bs) ← read2 bs
  return (⟨rate, lead, debounce, triggers, verify, slipWindow, beat, threshold, recover, blend, settle⟩, bs)

/-- A stored segment entry, which R2 to R5 must allow. -/
def readStoredEntry : Reader SegmentEntry := fun bs => do
  let (f, bs) ← readEntry bs
  let e ← checkEntry f
  return (e, bs)

/-- The stored copy read back. -/
def readContents : Reader Contents := fun bs => do
  let (setList, bs) ← readList readStoredEntry bs
  let (groups, bs) ← readList readStoredGroup bs
  let (prefs, bs) ← readList readRig bs
  let (settings, bs) ← readSettings bs
  return (⟨setList, groups, prefs, settings⟩, bs)

/-- The show that bytes spell, when they spell one that a store operation could have copied (R13, R14). -/
def readShow (bs : List Byte) : Option Contents := (readWhole readContents bs).filter Contents.ok

/-- The defaults of R19. -/
def defaultContents : Contents := ⟨[], [(1, GroupDef.default)], [.A, .B, .C], Settings.default⟩

/-- The show that a good copy is taken for: the one its bytes spell. (Where damage that the check does not find left bytes
that spell none, the manual calls the copy good and does not say what it holds: a free show, within the manual's ranges
(DESIGN CHOICE, safe: log entry 13).) -/
def readGood (bs : List Byte) : Contents :=
  (readShow bs <|> readShow (Config.misreadShow bs)).getD defaultContents

/-- The check of the stored copy, computed anew (R14): the contents of a good copy, whose two checks agree, or none for a
bad one. A copy without a stored check (never written, or not written through) is bad. -/
def StoredCopy.contents (c : StoredCopy) : Option Contents :=
  if c.check = some (crc16 c.bytes) then some (readGood c.bytes) else none

/-- The copy of a write abandoned after `written` bytes: the previous copy is no longer held (R15) and the check,
which is stored after the copy, has not been stored (R14, R17, R20). (DEDUCED, unsafe: log entry 13.) -/
def Contents.abandonedCopy (c : Contents) (written : Nat) : StoredCopy := ⟨c.bytes.take written, none⟩

/-- The copy that power loss leaves after `written` bytes of copy and check: whole when all of them had been written,
otherwise a part without a check (R17). (DEDUCED, unsafe: log entry 13.) -/
def Contents.cutCopy (c : Contents) (written : Nat) : StoredCopy :=
  if c.bytes.length + 2 ≤ written then c.copy else c.abandonedCopy written

/-- The bytes that read back after a write: changed where the medium damaged them. -/
def damageBytes (bs : List Byte) (damage : List (Nat × Byte)) : List Byte :=
  damage.foldl (fun bs d => bs.modify d.1 (· ^^^ d.2)) bs

/-- The working contents as they stand (R13). -/
def State.contents (s : State) : Contents :=
  ⟨s.setList, s.groups.map fun g => (g.num, g.gdef), s.prefs, s.settings⟩

end Sys2Proof.Machine
end

