-- ==== Sys2Proof/Machine/SetListCommands.lean ====
section
/-! DEFINITION. The set-list class commands: SET ENTRY, DROP ENTRY, CLEAR SET, STORE SHOW, RECALL SHOW (chapter 1). -/

namespace Sys2Proof.Machine

/-- The transport is STARTING or ROLLING. -/
def State.running (s : State) : Bool := s.tr.st == .starting || s.tr.st == .rolling

/-- Checks 1 and 2 of R6, and their counterparts in R9, R10 and R15. -/
def State.editBusy (s : State) : Bool := s.running || s.cond.isWriting

/-- An edit takes effect: the set list, the UNSTORED mark, and the edit report (R7 to R11). -/
def edited (e : Edit) (l : List SegmentEntry) (s : State) : State :=
  editReport e (markUnstored { s with setList := l })

/-- Some entry at another index carries the code (R6 check 6). -/
def codeElsewhere (l : List SegmentEntry) (index code : Nat) : Bool :=
  l.zipIdx.any fun x => x.1.code == code && !(x.2 == index)

/-- SET ENTRY (R6, R7, R8). -/
def setEntryWork (index : Nat) (f : EntryFields) (s : State) : State × Result :=
  let count := s.setList.length
  if s.editBusy then (s, .busy)
  else if count < index then (s, .badValue)
  else if index = count ∧ count = Config.maxEntries then (s, .full)
  else
    match checkEntry f with
    | none => (s, .badValue)
    | some e =>
      if codeElsewhere s.setList index e.code then (s, .duplicate)
      else if index = count then (edited (.append index) (s.setList ++ [e]) s, .accepted)
      else (edited (.replace index) (s.setList.set index e) s, .accepted)

/-- DROP ENTRY (R9). -/
def dropEntryWork (index : Nat) (s : State) : State × Result :=
  if s.editBusy then (s, .busy)
  else if s.setList.length ≤ index then (s, .badValue)
  else (edited (.drop index) (s.setList.eraseIdx index) s, .accepted)

/-- CLEAR SET (R10). -/
def clearSetWork (s : State) : State × Result :=
  if s.editBusy then (s, .busy)
  else if s.setList.isEmpty then (s, .accepted)
  else (edited .clear [] s, .accepted)

/-- STORE SHOW (R15): the snapshot, WRITING, and the previous copy no longer held. -/
def storeShowWork (s : State) : State × Result :=
  if s.editBusy then (s, .busy)
  else ({ s with cond := .writing s.contents false, retained := ⟨[], none⟩ }, .accepted)

/-- A stored group definition as a group on FALLBACK, with no mark and no last take record (R18, R149). -/
def recalledGroup (x : Nat × GroupDef) : Group := ⟨x.1, x.2, .fallback, false, none⟩

/-- A good copy replaces the working contents in full (R18). A change of house rate drops every link (R64); a change of
rate or debounce returns the debouncer's count to 0 (R41). -/
def recallContents (c : Contents) (s : State) : State :=
  let rateChanged := s.settings.rate ≠ c.settings.rate
  let count := if rateChanged ∨ s.settings.debounce ≠ c.settings.debounce then 0 else s.tr.cueCount
  let s := { s with
    setList := c.setList, groups := c.groups.map recalledGroup, prefs := c.prefs, settings := c.settings
    cond := .valid, unstored := false, tr := { s.tr with cueCount := count } }
  if rateChanged then dropAllLinks s else s

/-- RECALL SHOW (R18). -/
def recallShowWork (s : State) : State × Result :=
  if s.tr.st ≠ .idle then (s, .wrongState)
  else if s.cond.isWriting then (s, .busy)
  else
    match s.retained.contents with
    | none => ({ s with cond := .invalid, unstored := true }, .storeFailed)
    | some c => (recallContents c s, .accepted)

/-! ## The commands (R170) -/

/-- SET ENTRY, H'10. -/
def cmdSetEntry (index : Nat) (f : EntryFields) : State → State := command 0x10 .setList (setEntryWork index f)
/-- DROP ENTRY, H'11. -/
def cmdDropEntry (index : Nat) : State → State := command 0x11 .setList (dropEntryWork index)
/-- CLEAR SET, H'12. -/
def cmdClearSet : State → State := command 0x12 .setList clearSetWork
/-- STORE SHOW, H'13. -/
def cmdStoreShow : State → State := command 0x13 .setList storeShowWork
/-- RECALL SHOW, H'14. -/
def cmdRecallShow : State → State := command 0x14 .setList recallShowWork

/-- SET_ENTRY (R6). -/
def execSetEntry (index : Nat) (f : EntryFields) (s : State) : Host.Outcome State Fault Refusal :=
  .next (event (cmdSetEntry index f) s)
/-- DROP_ENTRY (R9). -/
def execDropEntry (index : Nat) (s : State) : Host.Outcome State Fault Refusal := .next (event (cmdDropEntry index) s)
/-- CLEAR_SET (R10). -/
def execClearSet (s : State) : Host.Outcome State Fault Refusal := .next (event cmdClearSet s)
/-- STORE_SHOW (R15). -/
def execStoreShow (s : State) : Host.Outcome State Fault Refusal := .next (event cmdStoreShow s)
/-- RECALL_SHOW (R18). -/
def execRecallShow (s : State) : Host.Outcome State Fault Refusal := .next (event cmdRecallShow s)

end Sys2Proof.Machine
end

