-- ==== Sys2Proof/Machine/TransportCommands.lean ====
section
/-! DEFINITION. The transport class commands: ARM, DISARM, GO, HALT, LOCATE, HOME, RELEASE (chapter 2). -/

namespace Sys2Proof.Machine

/-- ARM, H'20. -/
def cmdArm : State → State := command 0x20 .transport armWork
/-- DISARM, H'21. -/
def cmdDisarm : State → State := command 0x21 .transport disarmWork
/-- GO, H'22. -/
def cmdGo : State → State := command 0x22 .transport (goWork .desk)
/-- HALT, H'23. -/
def cmdHalt : State → State := command 0x23 .transport haltWork
/-- LOCATE, H'24; the offset defaults to 0. -/
def cmdLocate (index : Nat) (offset : Option Nat) : State → State :=
  command 0x24 .transport (locateWork index (offset.getD 0))
/-- HOME, H'25: LOCATE (0, 0). -/
def cmdHome : State → State := command 0x25 .transport (locateWork 0 0)
/-- RELEASE, H'26. -/
def cmdRelease : State → State := command 0x26 .transport (releaseWork .desk)

/-- ARM (R32). -/
def execArm (s : State) : Host.Outcome State Fault Refusal := .next (event cmdArm s)
/-- DISARM (R33). -/
def execDisarm (s : State) : Host.Outcome State Fault Refusal := .next (event cmdDisarm s)
/-- GO (R34, R35). -/
def execGo (s : State) : Host.Outcome State Fault Refusal := .next (event cmdGo s)
/-- HALT (R38). -/
def execHalt (s : State) : Host.Outcome State Fault Refusal := .next (event cmdHalt s)
/-- LOCATE (R36, R37). -/
def execLocate (index : Nat) (offset : Option Nat) (s : State) : Host.Outcome State Fault Refusal :=
  .next (event (cmdLocate index offset) s)
/-- HOME (R36). -/
def execHome (s : State) : Host.Outcome State Fault Refusal := .next (event cmdHome s)
/-- RELEASE (R39). -/
def execRelease (s : State) : Host.Outcome State Fault Refusal := .next (event cmdRelease s)

end Sys2Proof.Machine
end

