-- ==== Sys2Proof/Machine/SourceCommands.lean ====
section
/-! DEFINITION. The source class commands: TAKE, EXCLUDE, ADMIT, SET GROUP (R86, R87, R121, R122, R150, R151). -/

namespace Sys2Proof.Machine

/-! ## TAKE (R121, R122) -/

/-- The named groups whose source is not the rig, with their present sources, in group-number order (R121). -/
def takeMembers (r : Rig) (named : List Nat) (gs : List Group) : List (Nat × Source) :=
  presentMembers (gs.filter fun g => named.contains g.num && !(g.source == .rig r))

/-- A TAKE that has passed checks 1 to 4 of R121 in ROLLING. -/
def takeRolling (r : Rig) (named : List Nat) (s : State) : State × Result :=
  if !s.arb.inService.isEmpty then (s, .busy)
  else if s.isExcluded r then (s, .wrongState)
  else if (s.tracker r).st ≠ .ready then (s, .notReady)
  else (openService ⟨4, .manual, r, .rig r, takeMembers r named s.groups⟩ s, .accepted)

/-- A TAKE that has passed checks 1 to 4 of R121 in PARKED, STARTING or ENDED (R122). -/
def takeStopped (r : Rig) (named : List Nat) (s : State) : State × Result :=
  if s.isExcluded r || (s.port r).link != .locked then (s, .notReady) else (reassign r named s, .accepted)

/-- Check 1 of R121 on the list: 1..8 numbers, each of a defined group. -/
def namedGroupsOk (named : List Nat) (gs : List Group) : Bool :=
  decide (1 ≤ named.length ∧ named.length ≤ 8) && named.all fun n => (findGroup gs n).isSome

/-- TAKE (R121, R122). -/
def takeWork (rig : Source) (named : List Nat) (s : State) : State × Result :=
  match rig.rig? with
  | none => (s, .badValue)
  | some r =>
    if !namedGroupsOk named s.groups then (s, .badValue)
    else if !noRepeats named then (s, .duplicate)
    else if s.tr.st = .idle then (s, .wrongState)
    else if named.all fun n => (findGroup s.groups n).any fun g => g.source == .rig r then (s, .accepted)
    else if s.tr.st = .rolling then takeRolling r named s
    else takeStopped r named s

/-! ## EXCLUDE and ADMIT (R86, R87) -/

/-- EXCLUDE (R86). -/
def excludeWork (rig : Source) (s : State) : State × Result :=
  match rig.rig? with
  | none => (s, .badValue)
  | some r =>
    if s.onAir r || isTarget s.sw.takes r then (s, .onAir)
    else if s.isExcluded r then (s, .accepted)
    else (raiseRigState r false ((s.setTracker r (s.tracker r).exclude).setRigCue r none), .accepted)

/-- The tracker at ADMIT: OFFLINE, and at once as on a LOCKED report when the link is LOCKED (R87). -/
def Tracker.admitted (link : Link) (t : Tracker) : Tracker :=
  let u := { t with st := .offline }
  if link = .locked then u.locked else u

/-- ADMIT (R87). -/
def admitWork (rig : Source) (s : State) : State × Result :=
  match rig.rig? with
  | none => (s, .badValue)
  | some r =>
    if s.isExcluded r then
      (raiseRigState r false (s.setTracker r ((s.tracker r).admitted (s.port r).link)), .accepted)
    else (s, .accepted)

/-! ## SET GROUP (R150, R151) -/

/-- The group as SET GROUP leaves it: a new one placed as its transport state says, an old one keeping its state (R150). -/
def definedGroup (number : Nat) (d : GroupDef) (s : State) : Group :=
  match findGroup s.groups number with
  | some g => { g with gdef := d }
  | none => ⟨number, d, if s.tr.st = .parked then s.armSource else .fallback, false, none⟩

/-- SET GROUP with a definition, past checks 1 and 2 (R150). (DEDUCED, unsafe: UNSTORED always (log entry 19).) -/
def defineGroup (number : Nat) (d : GroupDef) (s : State) : State × Result :=
  if !(decide (1 ≤ number ∧ number ≤ 8) && d.inRange) then (s, .badValue)
  else if s.groups.any fun g => !(g.num == number) && g.gdef.overlaps d then (s, .badValue)
  else (markUnstored (writeGroups (insertGroup (definedGroup number d s)) s), .accepted)

/-- SET GROUP with REMOVE, past checks 1 and 2 (R151). -/
def removeGroup (number : Nat) (s : State) : State × Result :=
  if !decide (1 ≤ number ∧ number ≤ 8) then (s, .badValue)
  else
    match findGroup s.groups number with
    | none => (s, .accepted)
    | some _ =>
      if s.groups.length ≤ 1 then (s, .badValue)
      else (markUnstored (writeGroups (fun gs => gs.filter fun g => !(g.num == number)) s), .accepted)

/-- SET GROUP (R150, R151). -/
def setGroupWork (number : Nat) (definition : Option GroupDef) (s : State) : State × Result :=
  if !(s.tr.st == .idle || s.tr.st == .parked) || s.cond.isWriting then (s, .busy)
  else
    match definition with
    | some d => defineGroup number d s
    | none => removeGroup number s

/-! ## The commands (R170) -/

/-- TAKE, H'30. -/
def cmdTake (rig : Source) (named : List Nat) : State → State := command 0x30 .source (takeWork rig named)
/-- EXCLUDE, H'31. -/
def cmdExclude (rig : Source) : State → State := command 0x31 .source (excludeWork rig)
/-- ADMIT, H'32. -/
def cmdAdmit (rig : Source) : State → State := command 0x32 .source (admitWork rig)
/-- SET GROUP, H'33. -/
def cmdSetGroup (number : Nat) (definition : Option GroupDef) : State → State :=
  command 0x33 .source (setGroupWork number definition)

/-- TAKE (R121). -/
def execTake (rig : Source) (named : List Nat) (s : State) : Host.Outcome State Fault Refusal :=
  .next (event (cmdTake rig named) s)
/-- EXCLUDE (R86). -/
def execExclude (rig : Source) (s : State) : Host.Outcome State Fault Refusal := .next (event (cmdExclude rig) s)
/-- ADMIT (R87). -/
def execAdmit (rig : Source) (s : State) : Host.Outcome State Fault Refusal := .next (event (cmdAdmit rig) s)
/-- SET_GROUP (R150, R151). -/
def execSetGroup (number : Nat) (definition : Option GroupDef) (s : State) : Host.Outcome State Fault Refusal :=
  .next (event (cmdSetGroup number definition) s)

end Sys2Proof.Machine
end

