-- ==== Sys2Proof/Machine/SettingsCommands.lean ====
section
/-! DEFINITION. The settings class commands (R64, R175, R176 and the owning rules). -/

namespace Sys2Proof.Machine

/-- A taken settings command: the value comes into force, and a change sets the UNSTORED mark (R175). -/
def takeSetting (x : Settings) (result : Result) (s : State) : State × Result :=
  if x = s.settings then (s, result) else (markUnstored { s with settings := x }, result)

/-- SET RATE (R64). -/
def setRateWork (value : Nat) (s : State) : State × Result :=
  if s.tr.st ≠ .idle then (s, .wrongState)
  else
    match rateOf value with
    | none => (s, .badValue)
    | some r =>
      if r = s.settings.rate then (s, .accepted)
      else
        let s := { s with settings := { s.settings with rate := r }, tr := { s.tr with cueCount := 0 } }
        (markUnstored (dropAllLinks s), .accepted)

/-- SET LEAD (R45). -/
def setLeadWork (value : Nat) (s : State) : State × Result :=
  if s.running then (s, .busy)
  else
    let v := clampTo 8 120 value
    takeSetting { s.settings with lead := v } (clampResult value v) s

/-- SET DEBOUNCE (R176); a change returns the debouncer's count to 0 (R41). (DEDUCED: log entry 19.) -/
def setDebounceWork (value : Nat) (s : State) : State × Result :=
  let v := clampDebounce value
  let count := if v = s.settings.debounce then s.tr.cueCount else 0
  takeSetting { s.settings with debounce := v } (clampResult value v) { s with tr := { s.tr with cueCount := count } }

/-- SET TRIGGERS (R175). -/
def setTriggersWork (value : Triggers) (s : State) : State × Result :=
  takeSetting { s.settings with triggers := value } .accepted s

/-- SET VERIFY (R83). -/
def setVerifyWork (value : Nat) (s : State) : State × Result :=
  let v := clampTo 8 255 value
  takeSetting { s.settings with verify := v } (clampResult value v) s

/-- SET SLIP WINDOW (R98). -/
def setSlipWindowWork (value : Nat) (s : State) : State × Result :=
  let v := clampTo 0 64 value
  takeSetting { s.settings with slipWindow := v } (clampResult value v) s

/-- SET BEAT INTERVAL (R100, R176). -/
def setBeatIntervalWork (value : Nat) (s : State) : State × Result :=
  let v := clampBeat value
  takeSetting { s.settings with beat := v } (clampResult value v) s

/-- SET THRESHOLD (R124): a new value discards the pending requests at levels 0..3 at or above it. -/
def setThresholdWork (value : Nat) (s : State) : State × Result :=
  if 4 < value then (s, .badValue)
  else if value = s.settings.threshold then (s, .accepted)
  else
    takeSetting { s.settings with threshold := value } .accepted
      (s.onRequests fun qs => qs.filter fun q => !decide (q.level ≤ 3 ∧ value ≤ q.level))

/-- SET RECOVER (R125): turning it off withdraws a pending RECOVER request. -/
def setRecoverWork (value : Bool) (s : State) : State × Result :=
  takeSetting { s.settings with recover := value } .accepted
    (if value then s else s.onRequests fun qs => qs.filter fun q => !(q.cause == .recover))

/-- SET BLEND (R146). -/
def setBlendWork (value : Nat) (s : State) : State × Result :=
  let v := clampTo 1 64 value
  takeSetting { s.settings with blend := v } (clampResult value v) s

/-- SET SETTLE (R146). -/
def setSettleWork (value : Nat) (s : State) : State × Result :=
  let v := clampTo 16 1024 value
  takeSetting { s.settings with settle := v } (clampResult value v) s

/-- SET PREFERENCE (R126). -/
def setPreferenceWork (rigs : List Source) (s : State) : State × Result :=
  if 3 < rigs.length then (s, .badValue)
  else
    match rigList rigs with
    | none => (s, .badValue)
    | some rs =>
      if !noRepeats rs then (s, .duplicate)
      else if rs = s.prefs then (s, .accepted)
      else (markUnstored { s with prefs := rs }, .accepted)

/-! ## The commands (R170, R175) -/

/-- SET RATE, H'40. -/
def cmdSetRate (v : Nat) : State → State := command 0x40 .settings (setRateWork v)
/-- SET LEAD, H'41. -/
def cmdSetLead (v : Nat) : State → State := command 0x41 .settings (setLeadWork v)
/-- SET DEBOUNCE, H'42. -/
def cmdSetDebounce (v : Nat) : State → State := command 0x42 .settings (setDebounceWork v)
/-- SET TRIGGERS, H'43. -/
def cmdSetTriggers (v : Triggers) : State → State := command 0x43 .settings (setTriggersWork v)
/-- SET VERIFY, H'44. -/
def cmdSetVerify (v : Nat) : State → State := command 0x44 .settings (setVerifyWork v)
/-- SET SLIP WINDOW, H'45. -/
def cmdSetSlipWindow (v : Nat) : State → State := command 0x45 .settings (setSlipWindowWork v)
/-- SET BEAT INTERVAL, H'46. -/
def cmdSetBeatInterval (v : Nat) : State → State := command 0x46 .settings (setBeatIntervalWork v)
/-- SET THRESHOLD, H'47. -/
def cmdSetThreshold (v : Nat) : State → State := command 0x47 .settings (setThresholdWork v)
/-- SET RECOVER, H'48. -/
def cmdSetRecover (v : Bool) : State → State := command 0x48 .settings (setRecoverWork v)
/-- SET BLEND, H'49. -/
def cmdSetBlend (v : Nat) : State → State := command 0x49 .settings (setBlendWork v)
/-- SET SETTLE, H'4A. -/
def cmdSetSettle (v : Nat) : State → State := command 0x4A .settings (setSettleWork v)
/-- SET PREFERENCE, H'4B. -/
def cmdSetPreference (rigs : List Source) : State → State := command 0x4B .settings (setPreferenceWork rigs)

/-- SET_RATE (R64). -/
def execSetRate (v : Nat) (s : State) : Host.Outcome State Fault Refusal := .next (event (cmdSetRate v) s)
/-- SET_LEAD (R45). -/
def execSetLead (v : Nat) (s : State) : Host.Outcome State Fault Refusal := .next (event (cmdSetLead v) s)
/-- SET_DEBOUNCE (R176). -/
def execSetDebounce (v : Nat) (s : State) : Host.Outcome State Fault Refusal := .next (event (cmdSetDebounce v) s)
/-- SET_TRIGGERS (R175). -/
def execSetTriggers (v : Triggers) (s : State) : Host.Outcome State Fault Refusal := .next (event (cmdSetTriggers v) s)
/-- SET_VERIFY (R83). -/
def execSetVerify (v : Nat) (s : State) : Host.Outcome State Fault Refusal := .next (event (cmdSetVerify v) s)
/-- SET_SLIP_WINDOW (R98). -/
def execSetSlipWindow (v : Nat) (s : State) : Host.Outcome State Fault Refusal := .next (event (cmdSetSlipWindow v) s)
/-- SET_BEAT_INTERVAL (R100). -/
def execSetBeatInterval (v : Nat) (s : State) : Host.Outcome State Fault Refusal :=
  .next (event (cmdSetBeatInterval v) s)
/-- SET_THRESHOLD (R124). -/
def execSetThreshold (v : Nat) (s : State) : Host.Outcome State Fault Refusal := .next (event (cmdSetThreshold v) s)
/-- SET_RECOVER (R125). -/
def execSetRecover (v : Bool) (s : State) : Host.Outcome State Fault Refusal := .next (event (cmdSetRecover v) s)
/-- SET_BLEND (R146). -/
def execSetBlend (v : Nat) (s : State) : Host.Outcome State Fault Refusal := .next (event (cmdSetBlend v) s)
/-- SET_SETTLE (R146). -/
def execSetSettle (v : Nat) (s : State) : Host.Outcome State Fault Refusal := .next (event (cmdSetSettle v) s)
/-- SET_PREFERENCE (R126). -/
def execSetPreference (rigs : List Source) (s : State) : Host.Outcome State Fault Refusal :=
  .next (event (cmdSetPreference rigs) s)

end Sys2Proof.Machine
end

