-- ==== Sys2Proof/Machine/QueryCommands.lean ====
section
/-! DEFINITION. The queries (R177). -/

namespace Sys2Proof.Machine

/-- The rig query's record, with the role in the last Reference sent (R177). -/
def rigRecord (s : State) (r : Rig) (role : Role) : RigRecord :=
  let p := s.port r
  let t := s.tracker r
  { link := p.link, acquire := p.acquire, st := t.st, tap := t.tap, cued := t.cued, matchCount := t.matchCount
    verify := t.verify, notFound := t.notFound, causes := t.causes, badRun := t.badRun, goodRun := t.goodRun
    slipRun := t.slipRun, balance := t.balance, beatCode := p.beatCode, role }

/-- The transport query's record (R177). -/
def transportRecord (s : State) : TransportRecord where
  block := s.block
  st := s.tr.st
  house := s.tr.house
  lead := s.tr.lead.map (·.pos)
  jumpPending := s.tr.jumpPending
  planCount := s.tr.plan.length
  countdown := s.tr.countdown
  latch := s.tr.latch
  parkPending := s.tr.parkPending
  endPending := s.tr.endPending
  cause := s.tr.cause
  leadBlocks := s.settings.lead
  cueLevel := s.tr.cueLevel

/-- The arbiter query's record (R177). -/
def arbiterRecord (s : State) : QueryRecord :=
  .arbiter s.arb.requests s.arb.inService s.settings.threshold s.settings.recover s.prefs

/-- The takes query's record (R177). -/
def takesRecord (s : State) : QueryRecord :=
  .takes s.sw.next (engineHolder s.sw.takes false) (engineHolder s.sw.takes true) s.sw.takes

/-- QUERY RIG past the reply queue (R177). Before any Reference has been sent the role is a free value. (free value,
safe: log entry 16.) -/
def queryRigWork (rig : Source) (s : State) : State :=
  match rig.rig? with
  | none => pushReply ⟨0x52, .badValue, .none⟩ s
  | some r =>
    match (s.port r).lastRef with
    | some ref => pushReply ⟨0x52, .accepted, .query (.rig (rigRecord s r ref.role))⟩ s
    | none =>
      pushReply ⟨0x52, .accepted, .query (.rig (rigRecord s r (Config.unsentRole s.freeCount)))⟩
        { s with freeCount := s.freeCount + 1 }

/-- QUERY ENTRY, H'50. -/
def cmdQueryEntry (index : Nat) : State → State := query 0x50 fun s => (s.setList[index]?).map .entry
/-- QUERY GROUP, H'51. -/
def cmdQueryGroup (number : Nat) : State → State := query 0x51 fun s => (findGroup s.groups number).map .group
/-- QUERY RIG, H'52. -/
def cmdQueryRig (rig : Source) : State → State := gate 0x52 (queryRigWork rig)
/-- QUERY TRANSPORT, H'53. -/
def cmdQueryTransport : State → State := query 0x53 fun s => some (.transport (transportRecord s))
/-- QUERY ARBITER, H'54. -/
def cmdQueryArbiter : State → State := query 0x54 fun s => some (arbiterRecord s)
/-- QUERY TAKES, H'55. -/
def cmdQueryTakes : State → State := query 0x55 fun s => some (takesRecord s)
/-- QUERY SETTINGS, H'56. -/
def cmdQuerySettings : State → State := query 0x56 fun s => some (.settings s.settings s.prefs)

/-- QUERY_ENTRY (R177). -/
def execQueryEntry (index : Nat) (s : State) : Host.Outcome State Fault Refusal := .next (event (cmdQueryEntry index) s)
/-- QUERY_GROUP (R177). -/
def execQueryGroup (number : Nat) (s : State) : Host.Outcome State Fault Refusal :=
  .next (event (cmdQueryGroup number) s)
/-- QUERY_RIG (R177). -/
def execQueryRig (rig : Source) (s : State) : Host.Outcome State Fault Refusal := .next (event (cmdQueryRig rig) s)
/-- QUERY_TRANSPORT (R177). -/
def execQueryTransport (s : State) : Host.Outcome State Fault Refusal := .next (event cmdQueryTransport s)
/-- QUERY_ARBITER (R177). -/
def execQueryArbiter (s : State) : Host.Outcome State Fault Refusal := .next (event cmdQueryArbiter s)
/-- QUERY_TAKES (R177). -/
def execQueryTakes (s : State) : Host.Outcome State Fault Refusal := .next (event cmdQueryTakes s)
/-- QUERY_SETTINGS (R177). -/
def execQuerySettings (s : State) : Host.Outcome State Fault Refusal := .next (event cmdQuerySettings s)

end Sys2Proof.Machine
end

