-- ==== Sys2Proof/Machine/Power.lean ====
section
/-! DEFINITION. Power and RESTART: COLD_START, POWER_REMOVED, RESTART (R17, R19, R20, R180, R181). -/

namespace Sys2Proof.Machine

/-! ## Cold start (R19) -/

/-- Every block at its cold-start values, with given working contents (R19, R21, R25, R47, R65, R90, R123, R130, R149,
R160, R166, R181). The retained store stays, and a Time message being sent is completed when power remained (R165).
(DEDUCED: log entry 17.) -/
def coldState (c : Contents) (cond : StoreCond) (unstored : Bool) (s : State) : State :=
  { State.reset with
    setList := c.setList, groups := c.groups.map recalledGroup, prefs := c.prefs, settings := c.settings
    cond, unstored, retained := s.retained, freeCount := s.freeCount, pending := s.pending, desk := Desk.reset
    tc := { Timecode.reset with sending := if s.power then s.tc.sending else none } }

/-- COLD_START (R19): the stored copy when its check is good; otherwise the defaults, INVALID, UNSTORED and a
STORE_FAILED notice with reason CHECK. (DESIGN CHOICE: power may be on (log entry 17).) -/
def coldStartWork (s : State) : State :=
  match s.retained.contents with
  | some c => coldState c .valid false s
  | none => raise (.storeFailed .check .invalid true) (coldState defaultContents .invalid true s)

/-! ## Power removed (R17) -/

/-- POWER_REMOVED (R17): nothing is sent or output any more, and a store operation in flight leaves the part of the
copy that had been written. (DEDUCED, unsafe: log entry 13.) -/
def powerRemovedWork (written : Nat) (s : State) : State :=
  { s with
    power := false
    retained := match s.cond with
      | .writing c _ => c.cutCopy written
      | _ => s.retained
    program := List.replicate 64 0
    tc := { s.tc with sending := none, waiting := none }
    desk := { s.desk with line := .idle } }

/-! ## RESTART (R180) -/

/-- The desk port's part (R180): both queues emptied, the lost flag clear, the receiver hunting; a Notice being sent is
completed. -/
def Desk.restart (d : Desk) : Desk := { Desk.reset with line := d.line }

/-- The store's part (R20): an operation in flight is abandoned, and reported as the first notice. How much of the copy
had been written is a free value. -/
def abandonStore (s : State) : State :=
  match s.cond with
  | .writing c _ =>
    raise (.storeFailed .abandoned .invalid true)
      { s with
        cond := .invalid, unstored := true, freeCount := s.freeCount + 1
        retained := c.abandonedCopy (Config.storeProgress s.freeCount) }
  | _ => s

/-- A port whose link is LOCKED reports LOCKED to the reset tracker, which leaves OFFLINE with a RIG_STATE of its own (R47,
R66); an EXCLUDED tracker receives no such report (R65). -/
def restartReport (s : State) (r : Rig) : State :=
  if (s.port r).link = .locked ∧ (s.tracker r).st = .offline then
    raiseRigState r false (s.setTracker r (s.tracker r).locked)
  else s

/-- A group at RESTART: FALLBACK, its mark cleared, its last take record kept (R149). -/
def Group.restart (g : Group) : Group := { g with source := .fallback, uncovered := false }

/-- Every block's own part but the store's and the desk port's (R25, R65, R123, R130, R149, R160, R166). -/
def restartBlocks (s : State) : State :=
  { s with
    tr := Transport.reset
    trackers := ⟨s.trackers.a.restart, s.trackers.b.restart, s.trackers.c.restart⟩
    arb := ⟨[], []⟩
    sw := ⟨[], 0⟩
    groups := s.groups.map Group.restart
    tc := tcRestart s.tc
    grid := none }

/-- RESTART (R180). (DEDUCED, unsafe: the order is log entry 17's.) -/
def restartWork (s : State) : State × Result :=
  let s := abandonStore { s with desk := s.desk.restart }
  (Rig.all.foldl restartReport (restartBlocks s), .accepted)

/-- RESTART, H'27. -/
def cmdRestart : State → State := command 0x27 .transport restartWork

/-- COLD_START (R19): power is applied. -/
def execColdStart (s : State) : Host.Outcome State Fault Refusal := .next (kick (coldStartWork s))
/-- POWER_REMOVED (R17): without power there is nothing left to remove. -/
def execPowerRemoved (written : Nat) (s : State) : Host.Outcome State Fault Refusal :=
  .next (if s.power then powerRemovedWork written s else s)
/-- RESTART (R180). -/
def execRestart (s : State) : Host.Outcome State Fault Refusal := .next (event cmdRestart s)

end Sys2Proof.Machine
end

