-- ==== Sys2Proof/Machine/DeskPort.lean ====
section
/-! DEFINITION. The desk port's receiver (R169), the judgement of a Command (R170, R171), and the transmit line's end of a
frame (R179). -/

namespace Sys2Proof.Machine

/-! ## Payloads (R170, R171) -/

/-- A payload that holds no field. -/
def noFields (work : State → State) : List Byte → Option (State → State)
  | [] => some work
  | _ => none

/-- A payload that holds exactly what the reader takes. -/
def fieldsOf {α : Type} (r : Reader α) (work : α → State → State) (bs : List Byte) : Option (State → State) :=
  (readWhole r bs).map work

/-- Two fields, one after the other. -/
def readPair {α β : Type} (r : Reader α) (q : Reader β) : Reader (α × β) := fun bs =>
  match r bs with
  | none => none
  | some (x, rest) => (q rest).map fun y => ((x, y.1), y.2)

/-- The set-list class (R170). -/
def setListCommand (k : Nat) (p : List Byte) : Option (State → State) :=
  match k with
  | 0x10 => fieldsOf (readPair read1 readEntry) (fun x => cmdSetEntry x.1 x.2) p
  | 0x11 => fieldsOf read1 cmdDropEntry p
  | 0x12 => noFields cmdClearSet p
  | 0x13 => noFields cmdStoreShow p
  | 0x14 => noFields cmdRecallShow p
  | _ => none

/-- The transport class (R170). -/
def transportCommand (k : Nat) (p : List Byte) : Option (State → State) :=
  match k with
  | 0x20 => noFields cmdArm p
  | 0x21 => noFields cmdDisarm p
  | 0x22 => noFields cmdGo p
  | 0x23 => noFields cmdHalt p
  | 0x24 => fieldsOf (readPair read1 (readOpt read4)) (fun x => cmdLocate x.1 x.2) p
  | 0x25 => noFields cmdHome p
  | 0x26 => noFields cmdRelease p
  | 0x27 => noFields cmdRestart p
  | _ => none

/-- The source class (R170). -/
def sourceCommand (k : Nat) (p : List Byte) : Option (State → State) :=
  match k with
  | 0x30 => fieldsOf (readPair readSource (readList read1)) (fun x => cmdTake x.1 x.2) p
  | 0x31 => fieldsOf readSource cmdExclude p
  | 0x32 => fieldsOf readSource cmdAdmit p
  | 0x33 => fieldsOf (readPair read1 (readOpt readGroupDef)) (fun x => cmdSetGroup x.1 x.2) p
  | _ => none

/-- The settings class (R170, R175). -/
def settingsCommand (k : Nat) (p : List Byte) : Option (State → State) :=
  match k with
  | 0x40 => fieldsOf read4 cmdSetRate p
  | 0x41 => fieldsOf read1 cmdSetLead p
  | 0x42 => fieldsOf read1 cmdSetDebounce p
  | 0x43 => fieldsOf readTriggers cmdSetTriggers p
  | 0x44 => fieldsOf read1 cmdSetVerify p
  | 0x45 => fieldsOf read1 cmdSetSlipWindow p
  | 0x46 => fieldsOf read2 cmdSetBeatInterval p
  | 0x47 => fieldsOf read1 cmdSetThreshold p
  | 0x48 => fieldsOf readOnOff cmdSetRecover p
  | 0x49 => fieldsOf read1 cmdSetBlend p
  | 0x4A => fieldsOf read2 cmdSetSettle p
  | 0x4B => fieldsOf (readList readSource) cmdSetPreference p
  | _ => none

/-- The queries (R170, R177). -/
def queryCommand (k : Nat) (p : List Byte) : Option (State → State) :=
  match k with
  | 0x50 => fieldsOf read1 cmdQueryEntry p
  | 0x51 => fieldsOf read1 cmdQueryGroup p
  | 0x52 => fieldsOf readSource cmdQueryRig p
  | 0x53 => noFields cmdQueryTransport p
  | 0x54 => noFields cmdQueryArbiter p
  | 0x55 => noFields cmdQueryTakes p
  | 0x56 => noFields cmdQuerySettings p
  | _ => none

/-- The Command that a kind and payload spell, or none where R170 fails it. (DEDUCED: log entries 2 and 14.) -/
def decodeCommand (kind : Byte) (p : List Byte) : Option (State → State) :=
  let k := kind.toNat
  match k / 16 with
  | 1 => setListCommand k p
  | 2 => transportCommand k p
  | 3 => sourceCommand k p
  | 4 => settingsCommand k p
  | 5 => queryCommand k p
  | _ => none

/-- A Command whose check agrees (R170, R172). -/
def judge (kind : Byte) (p : List Byte) : State → State :=
  match decodeCommand kind p with
  | some f => f
  | none => gate kind (pushReply ⟨kind, .badValue, .none⟩)

/-! ## The receiver (R169) -/

/-- The receiver's state, set. -/
def setReceiver (rx : Receiver) (s : State) : State := { s with desk := { s.desk with rx } }

/-- What the bytes from a start byte on come to (R169). -/
inductive FrameResult where
  /-- The frame has not ended yet. -/
  | incomplete
  /-- The length is out of range or the check disagrees: hunting resumes after the start byte. -/
  | discard
  /-- The frame ends and its check agrees: a Command; what follows it stands in `rest`. -/
  | frame (kind : Byte) (payload rest : List Byte)
deriving DecidableEq, Repr

/-- A frame whose n bytes and check have all been taken. -/
def frameEnd (h l : Byte) (n : Nat) (body : List Byte) : FrameResult :=
  let bytes := body.take n
  match bytes with
  | kind :: payload =>
    if (body.drop n).take 2 = crcBytes (crc16 (h :: l :: bytes)) then .frame kind payload (body.drop (n + 2))
    else .discard
  | [] => .discard

/-- The bytes after a start byte (R169). -/
def frameOf : List Byte → FrameResult
  | h :: l :: body =>
    let n := be2 h l
    if n = 0 ∨ Config.maxFrameLength < n then .discard
    else if body.length < n + 2 then .incomplete
    else frameEnd h l n body
  | _ => .incomplete

/-- The receiver works through bytes, hunting at the first (R169); each round uses at least one byte, so the fuel is
their number. (DEDUCED, unsafe: a Command that R172 discards because 16 Replies are queued is a frame whose check agrees,
so the receiver goes on after the whole frame, and not with the byte after its start byte as R169 says for a bad check (log
entry 15).) -/
def scan : Nat → List Byte → State → State
  | 0, _, s => setReceiver .hunting s
  | _ + 1, [], s => setReceiver .hunting s
  | n + 1, b :: bs, s =>
    if b = 0xA5 then
      match frameOf bs with
      | .incomplete => setReceiver (.collecting bs) s
      | .discard => scan n bs s
      | .frame kind payload rest => scan n rest (judge kind payload s)
    else scan n bs s

/-- Bytes arrive on the desk link (R169). A frame being collected goes on with them. -/
def receive (bytes : List Byte) (s : State) : State :=
  match s.desk.rx with
  | .hunting => scan (bytes.length + 1) bytes s
  | .collecting taken => scan (taken.length + bytes.length + 2) (0xA5 :: (taken ++ bytes)) s

/-- The frame being collected is discarded; hunting resumes with the byte after its start byte, and a frame that this
begins and that is not whole is discarded in its turn (R169). -/
def abandonFrame : Nat → State → State
  | 0, s => s
  | n + 1, s =>
    match s.desk.rx with
    | .hunting => s
    | .collecting taken => abandonFrame n (scan (taken.length + 1) taken s)

/-- The frame in progress is discarded (R169). (DEDUCED, unsafe: log entry 15.) -/
def discardFrame (s : State) : State :=
  match s.desk.rx with
  | .hunting => s
  | .collecting taken => abandonFrame (taken.length + 1) s

/-! ## The transmit line (R179) -/

/-- The frame on the line ends: a Reply leaves the reply queue as its last byte has been sent (R172). -/
def Desk.frameEnd (d : Desk) : Desk :=
  match d.line with
  | .idle => d
  | .reply => { d with line := .idle, replies := d.replies.tail }
  | .notice _ => { d with line := .idle }

/-- A frame on the transmit line ends (R179). -/
def transmitEndWork (s : State) : State := { s with desk := s.desk.frameEnd }

/-- DESK_FRAME (R169, R170, R172). -/
def execDeskFrame (bytes : List Byte) (s : State) : Host.Outcome State Fault Refusal := .next (event (receive bytes) s)
/-- INTER_BYTE_TIMEOUT (R169). -/
def execInterByteTimeout (s : State) : Host.Outcome State Fault Refusal := .next (event discardFrame s)
/-- TRANSMIT_FRAME_END (R179). -/
def execTransmitFrameEnd (s : State) : Host.Outcome State Fault Refusal := .next (event transmitEndWork s)
/-- START_BYTE (R169): H'A5. -/
def execStartByte (s : State) : Host.Outcome State Fault Refusal := .next (event (receive [0xA5]) s)
/-- LENGTH_OUT_OF_RANGE (R169): the two length bytes. -/
def execLengthOutOfRange (high low : Byte) (s : State) : Host.Outcome State Fault Refusal :=
  .next (event (receive [high, low]) s)
/-- BYTE_WITHOUT_STOP_BIT (R169). -/
def execByteWithoutStopBit (s : State) : Host.Outcome State Fault Refusal := .next (event discardFrame s)

end Sys2Proof.Machine
end

