-- ==== Sys2Proof/Machine/Clock.lean ====
section
/-! DEFINITION. The house clock's commands: the boundary, the steps that fall due at it, and the output frame. -/

namespace Sys2Proof.Machine

/-- HOUSE_BLOCK_BOUNDARY (R21). -/
def execHouseBlockBoundary (cue : Level) (s : State) : Host.Outcome State Fault Refusal := .next (event (boundary cue) s)
/-- START_COUNTDOWN_EXPIRY (R29). -/
def execStartCountdownExpiry (s : State) : Host.Outcome State Fault Refusal := .next (event startCountdown s)
/-- CUE_DEBOUNCE_EXPIRY (R41). -/
def execCueDebounceExpiry (s : State) : Host.Outcome State Fault Refusal := .next (event cueDebounce s)
/-- VERIFY_COUNTDOWN_EXPIRY (R82). -/
def execVerifyCountdownExpiry (r : Rig) (s : State) : Host.Outcome State Fault Refusal := .next (event (verifyExpiry r) s)
/-- BEAT_INTERVAL_EXPIRY (R100). -/
def execBeatIntervalExpiry (r : Rig) (s : State) : Host.Outcome State Fault Refusal := .next (event (beatExpiry r) s)
/-- HELD_MESSAGE_TIMER_EXPIRY (R164). -/
def execHeldMessageTimerExpiry (s : State) : Host.Outcome State Fault Refusal := .next (event formHeld s)
/-- OUTPUT_FRAME (R152). -/
def execOutputFrame (s : State) : Host.Outcome State Fault Refusal := .next (event outputFrameWork s)
/-- TIME_MESSAGE_END (R165). -/
def execTimeMessageEnd (s : State) : Host.Outcome State Fault Refusal := .next (event (State.onTc endTimeMsg) s)

end Sys2Proof.Machine
end

