-- ==== Sys2Proof/Machine/RigLink.lean ====
section
/-! DEFINITION. The rig links' commands: messages, slot expiry, silence (chapter 3). -/

namespace Sys2Proof.Machine

/-- BLOCK_MESSAGE (R48, R51): a message arrives and is classified by its kind and length. -/
def execBlockMessage (r : Rig) (bytes : List Byte) (s : State) : Host.Outcome State Fault Refusal :=
  .next (event (rigMessage r bytes) s)
/-- BEAT_MESSAGE (R48, R60): a message arrives and is classified by its kind and length. -/
def execBeatMessage (r : Rig) (bytes : List Byte) (s : State) : Host.Outcome State Fault Refusal :=
  .next (event (rigMessage r bytes) s)
/-- SLOT_EXPIRY (R52). -/
def execSlotExpiry (r : Rig) (s : State) : Host.Outcome State Fault Refusal := .next (event (slotExpiry r) s)
/-- SILENCE_LIMIT (R50). -/
def execSilenceLimit (r : Rig) (s : State) : Host.Outcome State Fault Refusal := .next (event (silenceLimit r) s)

end Sys2Proof.Machine
end

