-- ==== Sys2Proof/Machine/TakeEvents.lean ====
section
/-! DEFINITION. The steps of a take (chapter 7). -/

namespace Sys2Proof.Machine

/-- TAKE_START (R133, R135). -/
def execTakeStart (n : Nat) (s : State) : Host.Outcome State Fault Refusal := .next (event (takeStart n) s)
/-- TAKE_WAIT_EXPIRY (R134). -/
def execTakeWaitExpiry (n : Nat) (s : State) : Host.Outcome State Fault Refusal := .next (event (takeWaitExpiry n) s)
/-- RAMP_END (R139). -/
def execRampEnd (n : Nat) (s : State) : Host.Outcome State Fault Refusal := .next (event (rampEnd n) s)
/-- SETTLE_END (R141). -/
def execSettleEnd (n : Nat) (s : State) : Host.Outcome State Fault Refusal := .next (event (settleEnd n) s)

end Sys2Proof.Machine
end

