-- ==== Sys2Proof/Machine/StoreEvents.lean ====
section
/-! DEFINITION. The completion of a store operation (R17). -/

namespace Sys2Proof.Machine

/-- The end of the write of a snapshot: the copy is read back and its check computed (R14, R17). The check stored is the
one computed as the copy was written. -/
def writeEnd (c : Contents) (changed : Bool) (damage : List (Nat × Byte)) (s : State) : State :=
  let bytes := damageBytes c.bytes damage
  let s := { s with retained := ⟨bytes, some (crc16 c.bytes)⟩ }
  if crc16 bytes = crc16 c.bytes then
    let s := { s with cond := .valid, unstored := changed && s.unstored }
    raise (.stored c.setList.length .valid s.unstored) s
  else raise (.storeFailed .write .invalid true) { s with cond := .invalid, unstored := true }

/-- STORE_WRITE_END, when a store operation is in flight (R17). (DESIGN CHOICE, safe: the damage is an operand (log
entry 13).) -/
def storeWriteEndWork (damage : List (Nat × Byte)) (s : State) : State :=
  match s.cond with
  | .writing c changed => writeEnd c changed damage s
  | _ => s

/-- STORE_TIMEOUT, when a store operation is in flight (R17): the write is abandoned. (DESIGN CHOICE, safe: the
progress is an operand (log entry 13).) -/
def storeTimeoutWork (written : Nat) (s : State) : State :=
  match s.cond with
  | .writing c _ =>
    raise (.storeFailed .timeout .invalid true)
      { s with cond := .invalid, unstored := true, retained := c.abandonedCopy written }
  | _ => s

/-- STORE_WRITE_END (R17). -/
def execStoreWriteEnd (damage : List (Nat × Byte)) (s : State) : Host.Outcome State Fault Refusal :=
  .next (event (storeWriteEndWork damage) s)
/-- STORE_TIMEOUT (R17). -/
def execStoreTimeout (written : Nat) (s : State) : Host.Outcome State Fault Refusal :=
  .next (event (storeTimeoutWork written) s)

end Sys2Proof.Machine
end

