-- ==== Sys2Proof/Machine/CommandFrames.lean ====
section
/-! DEFINITION. The desk's side of a Command: the kind and payload that spell it (R170, R171, R175, R177). -/

namespace Sys2Proof.Machine

/-- A whole optional part of three fields, its last itself given as bytes: absent, present, or neither. -/
def partBytes (present : Option (List Byte)) (absent : Bool) : Option (List Byte) :=
  match present with
  | some bs => some (1 :: bs)
  | none => if absent then some [0] else none

/-- The vamp part's bytes (R171): none where a field of it is missing. -/
def vampBytes (f : EntryFields) : Option (List Byte) :=
  partBytes
    (match f.vampIn, f.vampOut with
     | some i, some o => some (num4 i ++ num4 o ++ optBytes num1 f.passLimit)
     | _, _ => none)
    (f.vampIn.isNone && f.vampOut.isNone && f.passLimit.isNone)

/-- The tempo part's bytes (R171). -/
def tempoBytes (f : EntryFields) : Option (List Byte) :=
  partBytes
    (match f.tempo, f.beats, f.downbeat with
     | some t, some b, some d => some (num2 t ++ num1 b ++ num4 d)
     | _, _, _ => none)
    (f.tempo.isNone && f.beats.isNone && f.downbeat.isNone)

/-- The timecode part's bytes (R171). -/
def tcPartBytes (f : EntryFields) : Option (List Byte) :=
  partBytes
    (match f.tcStart, f.tcRate with
     | some v, some r => some (tcBytes v ++ num1 r)
     | _, _ => none)
    (f.tcStart.isNone && f.tcRate.isNone)

/-- A segment entry's bytes (R171): none where a part is neither whole nor absent, which no frame can spell. -/
def entryFieldsBytes (f : EntryFields) : Option (List Byte) :=
  match vampBytes f, tempoBytes f, tcPartBytes f with
  | some v, some t, some c => some (num2 f.code ++ num4 f.length ++ [f.endAction.byte] ++ v ++ t ++ c)
  | _, _, _ => none

/-- The kind of a Command (R170, R175, R177); none for a row that is no desk Command. -/
def commandKind : Instr → Option Byte
  | .setEntry _ _ => some 0x10
  | .dropEntry _ => some 0x11
  | .clearSet => some 0x12
  | .storeShow => some 0x13
  | .recallShow => some 0x14
  | .arm => some 0x20
  | .disarm => some 0x21
  | .go => some 0x22
  | .halt => some 0x23
  | .locate _ _ => some 0x24
  | .home => some 0x25
  | .release => some 0x26
  | .restart => some 0x27
  | .take _ _ => some 0x30
  | .exclude _ => some 0x31
  | .admitRig _ => some 0x32
  | .setGroup _ _ => some 0x33
  | .setRate _ => some 0x40
  | .setLead _ => some 0x41
  | .setDebounce _ => some 0x42
  | .setTriggers _ => some 0x43
  | .setVerify _ => some 0x44
  | .setSlipWindow _ => some 0x45
  | .setBeatInterval _ => some 0x46
  | .setThreshold _ => some 0x47
  | .setRecover _ => some 0x48
  | .setBlend _ => some 0x49
  | .setSettle _ => some 0x4A
  | .setPreference _ => some 0x4B
  | .queryEntry _ => some 0x50
  | .queryGroup _ => some 0x51
  | .queryRig _ => some 0x52
  | .queryTransport => some 0x53
  | .queryArbiter => some 0x54
  | .queryTakes => some 0x55
  | .querySettings => some 0x56
  | .coldStart | .houseBlockBoundary _ | .startCountdownExpiry | .cueDebounceExpiry | .verifyCountdownExpiry _
  | .beatIntervalExpiry _ | .heldMessageTimerExpiry | .blockMessage _ _ | .slotExpiry _ | .silenceLimit _
  | .beatMessage _ _ | .takeStart _ | .takeWaitExpiry _ | .rampEnd _ | .settleEnd _ | .outputFrame | .timeMessageEnd
  | .storeWriteEnd _ | .storeTimeout _ | .deskFrame _ | .interByteTimeout | .transmitFrameEnd | .powerRemoved _
  | .startByte | .lengthOutOfRange _ _ | .byteWithoutStopBit => none

/-- The payload of a Command (R170, R171, R175, R177). -/
def commandPayload : Instr → Option (List Byte)
  | .setEntry index entry => (entryFieldsBytes entry).map (num1 index ++ ·)
  | .dropEntry index => some (num1 index)
  | .locate index offset => some (num1 index ++ optBytes num4 offset)
  | .take rig groups => some (rig.byte :: listBytes num1 groups)
  | .exclude rig => some [rig.byte]
  | .admitRig rig => some [rig.byte]
  | .setGroup number definition => some (num1 number ++ optBytes groupDefBytes definition)
  | .setRate v => some (num4 v)
  | .setLead v => some (num1 v)
  | .setDebounce v => some (num1 v)
  | .setTriggers v => some [v.byte]
  | .setVerify v => some (num1 v)
  | .setSlipWindow v => some (num1 v)
  | .setBeatInterval v => some (num2 v)
  | .setThreshold v => some (num1 v)
  | .setRecover v => some [onOffByte v]
  | .setBlend v => some (num1 v)
  | .setSettle v => some (num2 v)
  | .setPreference rigs => some (listBytes (fun r => [r.byte]) rigs)
  | .queryEntry index => some (num1 index)
  | .queryGroup number => some (num1 number)
  | .queryRig rig => some [rig.byte]
  | .clearSet | .storeShow | .recallShow | .arm | .disarm | .go | .halt | .home | .release | .restart | .queryTransport
  | .queryArbiter | .queryTakes | .querySettings => some []
  | .coldStart | .houseBlockBoundary _ | .startCountdownExpiry | .cueDebounceExpiry | .verifyCountdownExpiry _
  | .beatIntervalExpiry _ | .heldMessageTimerExpiry | .blockMessage _ _ | .slotExpiry _ | .silenceLimit _
  | .beatMessage _ _ | .takeStart _ | .takeWaitExpiry _ | .rampEnd _ | .settleEnd _ | .outputFrame | .timeMessageEnd
  | .storeWriteEnd _ | .storeTimeout _ | .deskFrame _ | .interByteTimeout | .transmitFrameEnd | .powerRemoved _
  | .startByte | .lengthOutOfRange _ _ | .byteWithoutStopBit => none

end Sys2Proof.Machine
end

