-- ==== Sys2Proof/Machine/Dispatch.lean ====
section
/-! DEFINITION. The meaning of every command: one arm per row of spec/opcode_table.json. -/

namespace Sys2Proof.Machine

def exec (i : Instr) (s : State) : Host.Outcome State Fault Refusal :=
  match i with
  | .coldStart => Sys2Proof.Machine.execColdStart s
  | .houseBlockBoundary cue => Sys2Proof.Machine.execHouseBlockBoundary cue s
  | .startCountdownExpiry => Sys2Proof.Machine.execStartCountdownExpiry s
  | .cueDebounceExpiry => Sys2Proof.Machine.execCueDebounceExpiry s
  | .verifyCountdownExpiry rig => Sys2Proof.Machine.execVerifyCountdownExpiry rig s
  | .beatIntervalExpiry rig => Sys2Proof.Machine.execBeatIntervalExpiry rig s
  | .heldMessageTimerExpiry => Sys2Proof.Machine.execHeldMessageTimerExpiry s
  | .blockMessage rig bytes => Sys2Proof.Machine.execBlockMessage rig bytes s
  | .slotExpiry rig => Sys2Proof.Machine.execSlotExpiry rig s
  | .silenceLimit rig => Sys2Proof.Machine.execSilenceLimit rig s
  | .beatMessage rig bytes => Sys2Proof.Machine.execBeatMessage rig bytes s
  | .takeStart take => Sys2Proof.Machine.execTakeStart take s
  | .takeWaitExpiry take => Sys2Proof.Machine.execTakeWaitExpiry take s
  | .rampEnd take => Sys2Proof.Machine.execRampEnd take s
  | .settleEnd take => Sys2Proof.Machine.execSettleEnd take s
  | .outputFrame => Sys2Proof.Machine.execOutputFrame s
  | .timeMessageEnd => Sys2Proof.Machine.execTimeMessageEnd s
  | .storeWriteEnd damage => Sys2Proof.Machine.execStoreWriteEnd damage s
  | .storeTimeout written => Sys2Proof.Machine.execStoreTimeout written s
  | .deskFrame bytes => Sys2Proof.Machine.execDeskFrame bytes s
  | .interByteTimeout => Sys2Proof.Machine.execInterByteTimeout s
  | .transmitFrameEnd => Sys2Proof.Machine.execTransmitFrameEnd s
  | .setEntry index entry => Sys2Proof.Machine.execSetEntry index entry s
  | .dropEntry index => Sys2Proof.Machine.execDropEntry index s
  | .clearSet => Sys2Proof.Machine.execClearSet s
  | .storeShow => Sys2Proof.Machine.execStoreShow s
  | .recallShow => Sys2Proof.Machine.execRecallShow s
  | .arm => Sys2Proof.Machine.execArm s
  | .disarm => Sys2Proof.Machine.execDisarm s
  | .go => Sys2Proof.Machine.execGo s
  | .halt => Sys2Proof.Machine.execHalt s
  | .locate index offset => Sys2Proof.Machine.execLocate index offset s
  | .home => Sys2Proof.Machine.execHome s
  | .release => Sys2Proof.Machine.execRelease s
  | .restart => Sys2Proof.Machine.execRestart s
  | .take rig groups => Sys2Proof.Machine.execTake rig groups s
  | .exclude rig => Sys2Proof.Machine.execExclude rig s
  | .admitRig rig => Sys2Proof.Machine.execAdmit rig s
  | .setGroup number definition => Sys2Proof.Machine.execSetGroup number definition s
  | .setRate value => Sys2Proof.Machine.execSetRate value s
  | .setLead value => Sys2Proof.Machine.execSetLead value s
  | .setDebounce value => Sys2Proof.Machine.execSetDebounce value s
  | .setTriggers value => Sys2Proof.Machine.execSetTriggers value s
  | .setVerify value => Sys2Proof.Machine.execSetVerify value s
  | .setSlipWindow value => Sys2Proof.Machine.execSetSlipWindow value s
  | .setBeatInterval value => Sys2Proof.Machine.execSetBeatInterval value s
  | .setThreshold value => Sys2Proof.Machine.execSetThreshold value s
  | .setRecover value => Sys2Proof.Machine.execSetRecover value s
  | .setBlend value => Sys2Proof.Machine.execSetBlend value s
  | .setSettle value => Sys2Proof.Machine.execSetSettle value s
  | .setPreference rigs => Sys2Proof.Machine.execSetPreference rigs s
  | .queryEntry index => Sys2Proof.Machine.execQueryEntry index s
  | .queryGroup number => Sys2Proof.Machine.execQueryGroup number s
  | .queryRig rig => Sys2Proof.Machine.execQueryRig rig s
  | .queryTransport => Sys2Proof.Machine.execQueryTransport s
  | .queryArbiter => Sys2Proof.Machine.execQueryArbiter s
  | .queryTakes => Sys2Proof.Machine.execQueryTakes s
  | .querySettings => Sys2Proof.Machine.execQuerySettings s
  | .powerRemoved written => Sys2Proof.Machine.execPowerRemoved written s
  | .startByte => Sys2Proof.Machine.execStartByte s
  | .lengthOutOfRange high low => Sys2Proof.Machine.execLengthOutOfRange high low s
  | .byteWithoutStopBit => Sys2Proof.Machine.execByteWithoutStopBit s

end Sys2Proof.Machine
end

