-- ==== Sys2Proof/Safety.lean ====
section
/-! DEFINITION. What a state must be for a run to count as safe: the bounds and relations that the manual gives the records
of the part; and the terms that claims about one command are stated in. -/

namespace Sys2Proof

/-! ## Segment entries (R2 to R5) -/

/-- The vamp part is absent as a whole, or valid (R3). -/
def EntryFields.VampValid (f : EntryFields) : Prop :=
  (f.vampIn = none ∧ f.vampOut = none ∧ f.passLimit = none) ∨
    ∃ i o, f.vampIn = some i ∧ f.vampOut = some o ∧ i < o ∧ o ≤ f.length ∧ 16 ≤ o - i ∧
      ∀ p, f.passLimit = some p → 1 ≤ p ∧ p ≤ 99

/-- The tempo part is absent as a whole, or complete and in range (R4). -/
def EntryFields.TempoValid (f : EntryFields) : Prop :=
  (f.tempo = none ∧ f.beats = none ∧ f.downbeat = none) ∨
    ∃ t b d, f.tempo = some t ∧ f.beats = some b ∧ f.downbeat = some d ∧ 4000 ≤ t ∧ t ≤ 30000 ∧ 1 ≤ b ∧ b ≤ 16 ∧
      d < f.length * 32

/-- The timecode part is absent as a whole, or complete and in range (R5). -/
def EntryFields.TimecodeValid (f : EntryFields) : Prop :=
  (f.tcStart = none ∧ f.tcRate = none) ∨
    ∃ v r, f.tcStart = some v ∧ f.tcRate = some r ∧ (r = 24 ∨ r = 25 ∨ r = 30) ∧ v.hours ≤ 23 ∧ v.minutes ≤ 59 ∧
      v.seconds ≤ 59 ∧ v.frames < r

/-- Every field lies in its range and every part is complete and consistent (R2 to R5). -/
def EntryFields.Valid (f : EntryFields) : Prop :=
  1 ≤ f.code ∧ f.code ≤ 999 ∧ 16 ≤ f.length ∧ f.length ≤ 4194303 ∧ f.VampValid ∧ f.TempoValid ∧ f.TimecodeValid

end Sys2Proof

namespace Sys2Proof.Machine

/-! ## The desk port -/

/-- The queues lie in their bounds, and a Reply on the line is the head of the reply queue (R172, R178, R179). -/
structure Desk.Safe (d : Desk) : Prop where
  notices : d.notices.length ≤ Config.maxNotices
  replies : d.replies.length ≤ Config.maxReplies
  line : d.line = .reply → d.replies ≠ []

/-! ## Trackers and ports -/

/-- The detector fields and the tap lie in their ranges (R65, R73, R90, R101). -/
structure Tracker.Safe (t : Tracker) : Prop where
  tap : t.tap ≤ Config.maxTap
  matchCount : t.matchCount ≤ Config.settleMatches
  badRun : t.badRun ≤ Config.stallRun
  goodRun : t.goodRun ≤ Config.clearRun
  slipRun : t.slipRun < Config.slipLimit
  balanceLow : -9 ≤ t.balance
  balanceHigh : t.balance ≤ 8

/-- The delay line is a ring of 128 records, and the acquire count lies in 0..8 (R47, R55). -/
structure Port.Safe (p : Port) : Prop where
  line : p.line.length ≤ Config.ringSlots
  acquire : p.acquire ≤ Config.acquireCount

/-! ## The working contents -/

/-- The working set list is one that the edits of chapter 1 can build (R1 to R5). -/
def SetListSafe (l : List SegmentEntry) : Prop :=
  l.length ≤ Config.maxEntries ∧ (∀ e ∈ l, e.fields.Valid) ∧ (l.map (·.code)).Nodup

/-- The group table holds 1..8 groups in rising number order, each range within 1..64, no two sharing a channel; a mark
stands only on a rig's group (R149, R151, R157). -/
structure GroupsSafe (gs : List Group) : Prop where
  some_ : gs ≠ []
  number : ∀ g ∈ gs, 1 ≤ g.num ∧ g.num ≤ 8
  range : ∀ g ∈ gs, 1 ≤ g.gdef.first ∧ g.gdef.first ≤ g.gdef.last ∧ g.gdef.last ≤ 64
  apart : gs.Pairwise fun g h => g.num < h.num ∧ (g.gdef.last < h.gdef.first ∨ h.gdef.last < g.gdef.first)
  mark : ∀ g ∈ gs, g.uncovered = true → g.source ≠ .fallback

/-! ## The transport -/

/-- The house position is present exactly outside IDLE, and the plan is empty outside STARTING and ROLLING (R22, R23). -/
structure Transport.Safe (t : Transport) : Prop where
  house : t.house = none ↔ t.st = .idle
  plan : t.st ≠ .starting → t.st ≠ .rolling → t.plan = []

/-- Besides, every plan entry carries the code of the set-list entry at its index (R23). -/
structure State.PlanSafe (s : State) : Prop where
  transport : s.tr.Safe
  codes : ∀ e ∈ s.tr.plan, e.code = s.codeAt e.index

/-! ## Takes, requests, services -/

/-- Takes are open and requests pending only while ROLLING, and in IDLE every group stands on FALLBACK (R33, R108, R123,
R145, R149). -/
structure State.StoppedSafe (s : State) : Prop where
  takes : s.tr.st ≠ .rolling → s.sw.takes = []
  requests : s.tr.st ≠ .rolling → s.arb.requests = []
  idle : s.tr.st = .idle → ∀ g ∈ s.groups, g.source = .fallback

/-- Each level in service is owned by an open take, each open take owns a level, levels and take numbers are distinct, the
table stands in take-number order, only a BLENDING take holds an engine, and each request stands at the level of its
cause (R108, R110, R128). -/
structure State.ServiceSafe (s : State) : Prop where
  owned : ∀ x ∈ s.arb.inService, ∃ t ∈ s.sw.takes, t.num = x.2
  owns : ∀ t ∈ s.sw.takes, ∃ x ∈ s.arb.inService, x.2 = t.num
  levels : (s.arb.inService.map (·.1)).Nodup ∧ ∀ x ∈ s.arb.inService, x.1 ≤ 4
  numbers : (s.sw.takes.map (·.num)).Nodup
  order : s.sw.takes.Pairwise fun t u => t.num < u.num
  engines : ∀ t ∈ s.sw.takes, t.engine ≠ none → t.st = .blending
  requests : ∀ q ∈ s.arb.requests, q.level = q.cause.level

/-- An EXCLUDED rig carries no group, is no open take's target and is not CUED (R79, R86, R113, R121). -/
def State.ExcludedSafe (s : State) : Prop :=
  ∀ r, (s.tracker r).st = .excluded →
    (∀ g ∈ s.groups, g.source ≠ .rig r) ∧ (∀ t ∈ s.sw.takes, t.target ≠ .rig r) ∧ (s.tracker r).cued = false

/-! ## The terms of claims about one command -/

/-- The part takes a Command that ends now: it has power, and no Reply is queued (R172). -/
def State.Listening (s : State) : Prop := s.power = true ∧ s.desk.replies = []

/-- The transport is IDLE, PARKED or ENDED. -/
def State.Stopped (s : State) : Prop := s.tr.st ≠ .starting ∧ s.tr.st ≠ .rolling

/-- No store operation is in flight. -/
def StoreCond.Settled (c : StoreCond) : Prop := ∀ x b, c ≠ .writing x b

/-- The desk port after the Reply to a Command that found no Reply queued: the Reply stands alone in the queue, and an
idle line has begun it (R172, R179). -/
def Desk.answered (r : Reply) (d : Desk) : Desk :=
  { d with replies := [r], line := if d.line = .idle then .reply else d.line }

/-- The state with such a Reply given. -/
def State.answered (kind : Byte) (result : Result) (summary : Summary) (s : State) : State :=
  { s with desk := s.desk.answered ⟨kind, result, summary⟩ }

/-- The set-list class summary of a state (R174). -/
def State.setListSummary (s : State) : Summary := .setList s.setList.length s.cond.code s.unstored

/-- The transport class summary of a state (R174). -/
def State.transportSummary (s : State) : Summary := .transport s.tr.st s.tr.house s.tr.cause

/-- The source class summary of a state (R174). -/
def State.sourceSummary (s : State) : Summary :=
  .source (s.groups.map fun g => (g.num, g.source, g.uncovered)) s.arb.inService

/-- The store condition once a settings or preference change has set the UNSTORED mark: a store operation in flight
remembers it (R17). -/
def StoreCond.noted : StoreCond → StoreCond
  | .writing c _ => .writing c true
  | c => c

/-- The state with settings in force: unchanged when they already are, otherwise with the UNSTORED mark set (R175). -/
def State.withSettings (x : Settings) (s : State) : State :=
  if x = s.settings then s else { s with settings := x, unstored := true, cond := s.cond.noted }

/-- w is the value of low..high nearest to v (R176). -/
def Nearest (low high v w : Nat) : Prop :=
  low ≤ w ∧ w ≤ high ∧ (low ≤ v → v ≤ high → w = v) ∧ (v < low → w = low) ∧ (high < v → w = high)

/-- Nothing that fell due at the last boundary is still to be taken. -/
structure State.NothingDue (s : State) : Prop where
  start : ¬(s.tr.st = .starting ∧ s.tr.countdown = 0)
  cue : s.tr.cueCount < debounceBlocks s.settings
  verify : ∀ r, (s.tracker r).verifyDue = false
  beat : ∀ r, (s.tracker r).beatDue = false
  takes : ∀ t ∈ s.sw.takes, t.due = none
  held : s.tc.heldDue = false

/-- The state that the catch-up appends of R35 and R37 leave: one append after another, until the plan holds lead_blocks
entries with no pending, or one new pending is set at a tail entry marked LAST (R28). -/
def CaughtUp (s t : State) : Prop :=
  (∃ k : Nat, t = Nat.repeat (append s.tr.countdown) k s) ∧
    ((t.tr.plan.length = s.settings.lead ∧ t.tr.parkPending = false ∧ t.tr.endPending = false) ∨
      (t.tr.plan.length < s.settings.lead ∧ t.tr.parkPending = !t.tr.endPending ∧
        ∃ x, t.tr.plan.getLast? = some x ∧ x.marks.last = true ∧
          (t.tr.endPending = true ↔ x.index + 1 = s.setList.length)))

/-! ## The terms of claims about the group table's writes -/

/-- A rig's tracker once an event's writes have left the groups `gs`: a held SLIP clears when the rig was the source of a
group and is of none after them, and as the last cause it takes the tracker from FAILED to SEARCHING; otherwise the whole
record stays (R85, R99, R158). -/
def State.trackerAfter (s : State) (gs : List Group) (r : Rig) : Tracker :=
  let t := s.tracker r
  if t.causes.slip = true ∧ (∃ g ∈ s.groups, g.source = .rig r) ∧ ∀ g ∈ gs, g.source ≠ .rig r then
    if t.causes.stall = true ∨ t.causes.beat = true then { t with causes := { t.causes with slip := false } }
    else { t with causes := ⟨false, false, false⟩, st := .searching, notFound := 0 }
  else t

/-- The pending requests once an event's writes have left the groups `gs`: the detection requests of a rig that was the
source of a FOLLOW group and is of none after them are withdrawn, and the others stay in their order (R112, R158). -/
def State.requestsAfter (s : State) (gs : List Group) : List Request :=
  let follows (l : List Group) (r : Rig) : Bool := l.any fun g => g.gdef.follow == .follow && g.source == .rig r
  s.arb.requests.filter fun q => !(decide (q.level < 4) && follows s.groups q.rig && !follows gs q.rig)

/-! ## The terms of claims about notices -/

/-- The desk port after Notices have been offered, one after another (R178). -/
def Desk.offers (bodies : List NoticeBody) (block : HouseBlock) (d : Desk) : Desk :=
  bodies.foldl (fun d b => d.offer b block) d

/-- The RIG_STATE notices of an event that takes the trackers from some records to others: one, in port order, for each
tracker whose state, CUED mark or causes changed (R80, R84, R89, R104). -/
def State.rigStates (s : State) (before after : Rig → Tracker) : List NoticeBody :=
  ([.A, .B, .C].filter fun r =>
    decide ((before r).st ≠ (after r).st ∨ (before r).cued ≠ (after r).cued ∨ (before r).causes ≠ (after r).causes)).map
    fun r => .rigState r (s.port r).link (after r).st (after r).cued (after r).tap (after r).causes false

/-- The Notices of a rig's link going DOWN, with no take open and nothing requested: the RIG_STATE of link and tracker, where
the link was not DOWN, and the FAULT of the LINK detection, where the tracker was online (R63, R64, R67, R94, R106). Their
order is log entry 7. -/
def State.linkDrop (s : State) (r : Rig) : List NoticeBody :=
  let t := s.tracker r
  let gone : NoticeBody :=
    if t.st = .excluded then .rigState r .down .excluded t.cued t.tap t.causes false
    else .rigState r .down .offline false t.tap ⟨false, false, false⟩ false
  (if (s.port r).link = .down then [] else [gone]) ++
    if t.st = .excluded ∨ t.st = .offline then []
    else [.fault r .link false 0 .detection false (decide103 r .link s) ⟨false, false, false⟩]

/-- TAKE_SETTLED for a take that HALT or the end of a run has closed, which left the groups `gs` (R145, R148). -/
def Take.closedAt (c : Close) (gs : List Group) (u : Take) : NoticeBody :=
  .takeSettled u.num c u.cause u.target u.levels none (if u.st = .waiting then none else some (frameBlock u.startFrame))
    (memberSources gs u.members)

/-! ## The terms of claims about services and takes -/

/-- No take is open, no request pending, nothing in service; group numbers are distinct and the next take number is one. -/
structure State.Quiet (s : State) : Prop where
  takes : s.sw.takes = []
  requests : s.arb.requests = []
  inService : s.arb.inService = []
  groups : (s.groups.map (·.num)).Nodup
  next : s.sw.next < 256

/-- The request that a detection of a rig makes now, at the detection's level (section 5.1, R108). -/
def State.requestOf (r : Rig) (s : State) : Detection → Request
  | .link => ⟨0, r, .link, s.block⟩
  | .stall => ⟨1, r, .stall, s.block⟩
  | .slip => ⟨2, r, .slip, s.block⟩
  | .beat => ⟨3, r, .beat, s.block⟩

/-- A quiet state once a service has opened a take for it: the take stands alone in the table under the next number,
WAITING, with the settings in force and the groups as its members, its level is in service, and TAKE_BEGUN is raised
(R114, R129, R130, R131, R146, R147). That its ramp count and settle countdown are 0 is log entry 21. -/
def State.opened (q : Request) (target : Source) (gs : List Group) (s : State) : State :=
  let n := s.sw.next
  let members : List Member :=
    gs.map fun g => ⟨g.num, g.source, if target = .fallback then .cut else g.gdef.kind, .outgoing⟩
  let take : Take :=
    { num := n, levels := [q.level], cause := q.cause, rig := q.rig, target := target, members := members, dropped := []
      blendLength := s.settings.blend * 32, settlePeriod := s.settings.settle, st := .waiting
      startFrame := firstFrame (s.block + 1), wait := 0, engine := none, ramp := 0, settleCount := 0, due := none }
  { s with
    sw := ⟨[take], (n + 1) % 256⟩, arb := ⟨[], [(q.level, n)]⟩
    desk := s.desk.offer (.takeBegun n q.cause [q.level] target members [] false []) s.block }

/-- A quiet state once a detection's request has been serviced (R113 to R116, R127): a take of the rig's FOLLOW groups to
the rig chosen; without one, for LINK NO_COVER and a take to FALLBACK, and for the others the groups marked UNCOVERED
and NO_COVER. -/
def State.served (q : Request) (s : State) : State :=
  let gs := s.groups.filter fun g => g.gdef.follow == .follow && g.source == .rig q.rig
  match chooseTarget s (some q.rig) [] with
  | some r => s.opened q (.rig r) gs
  | none =>
    if q.cause = .link then
      State.opened q .fallback gs
        (raise (.noCover q.cause q.level q.rig .fallback (gs.map (·.num)) (some s.sw.next)) s)
    else
      raise (.noCover q.cause q.level q.rig .uncovered (gs.map (·.num)) none)
        { s with
          arb := ⟨[], []⟩
          groups := s.groups.map fun g =>
            if g.gdef.follow = .follow ∧ g.source = .rig q.rig then { g with uncovered := true } else g }

/-- A quiet state once a RECOVER request has been serviced (R113, R119, R127): without a target NO_COVER; otherwise every
mark on the target is cleared, and a take of the FOLLOW groups on FALLBACK or marked elsewhere is opened, if any. -/
def State.recovered (q : Request) (s : State) : State :=
  let gs := s.groups.filter fun g => g.gdef.follow == .follow && (g.source == .fallback || g.uncovered)
  match chooseTarget s none [] with
  | none => raise (.noCover q.cause q.level q.rig .unchanged (gs.map (·.num)) none) { s with arb := ⟨[], []⟩ }
  | some r =>
    let cleared : State :=
      { s with
        arb := ⟨[], []⟩
        groups := s.groups.map fun g => if g.source = .rig r then { g with uncovered := false } else g }
    match gs.filter fun g => g.source != .rig r with
    | [] => cleared
    | members => cleared.opened q (.rig r) members

/-- The one failure that a rig's tracker can renew (R105): the LINK condition of an OFFLINE rig that carries a group, or
the only cause of a FAILED one. -/
def State.Stands (s : State) (r : Rig) : Detection → Prop
  | .link => (s.tracker r).st = .offline ∧ ∃ g ∈ s.groups, g.source = .rig r
  | .stall => (s.tracker r).st = .failed ∧ (s.tracker r).causes = ⟨true, false, false⟩
  | .slip => (s.tracker r).st = .failed ∧ (s.tracker r).causes = ⟨false, true, false⟩
  | .beat => (s.tracker r).st = .failed ∧ (s.tracker r).causes = ⟨false, false, true⟩

/-- A state after the renewal of a standing failure whose outcome is REQUESTED (R105, R106). -/
def State.renewed (r : Rig) (d : Detection) (s : State) : State :=
  let q := s.requestOf r d
  State.served q (raise (.fault r d false q.level .renewal false .requested (s.tracker r).causes) s)

/-- The command is a LOCATE to a target, under its kind; HOME is LOCATE (0, 0) (R36). -/
def Locates (c : Instr) (kind : Byte) (index offset : Nat) : Prop :=
  (∃ o, c = .locate index o ∧ kind = 0x24 ∧ offset = o.getD 0) ∨ (c = .home ∧ kind = 0x25 ∧ index = 0 ∧ offset = 0)

end Sys2Proof.Machine
end

