-- ==== Sys2Proof/WellFormed.lean ====
section
/-! DEFINITION. Which commands a sender can send: every number lies within the bytes that its field has on its link (R171),
and the two bytes of LENGTH_OUT_OF_RANGE spell a length that is out of range (R169). Ranges narrower than the bytes are the
owning blocks' own checks (R171), not these. -/

namespace Sys2Proof

/-- The number fits in so many bytes. -/
def fits (bytes n : Nat) : Bool := decide (n < 256 ^ bytes)

/-- The optional number, when present, fits. -/
def fitsOpt (bytes : Nat) (n : Option Nat) : Bool := n.all (fits bytes)

/-- A timecode value's four numbers fit in a byte each. -/
def TcValue.wellFormed (v : TcValue) : Bool := fits 1 v.hours && fits 1 v.minutes && fits 1 v.seconds && fits 1 v.frames

/-- A segment entry's numbers fit their fields (R171). -/
def EntryFields.wellFormed (f : EntryFields) : Bool :=
  fits 2 f.code && fits 4 f.length && fitsOpt 4 f.vampIn && fitsOpt 4 f.vampOut && fitsOpt 1 f.passLimit &&
    fitsOpt 2 f.tempo && fitsOpt 1 f.beats && fitsOpt 4 f.downbeat && f.tcStart.all TcValue.wellFormed &&
    fitsOpt 1 f.tcRate

/-- A group definition's channels fit. -/
def GroupDef.wellFormed (d : GroupDef) : Bool := fits 1 d.first && fits 1 d.last

/-- The command is one that a sender can send. -/
def Instr.wellFormed : Instr → Bool
  | .takeStart n | .takeWaitExpiry n | .rampEnd n | .settleEnd n => fits 1 n
  | .setEntry index entry => fits 1 index && entry.wellFormed
  | .dropEntry index => fits 1 index
  | .locate index offset => fits 1 index && fitsOpt 4 offset
  | .take _ groups => fits 1 groups.length && groups.all (fits 1)
  | .setGroup number definition => fits 1 number && definition.all GroupDef.wellFormed
  | .setRate v => fits 4 v
  | .setLead v => fits 1 v
  | .setDebounce v => fits 1 v
  | .setVerify v => fits 1 v
  | .setSlipWindow v => fits 1 v
  | .setBeatInterval v => fits 2 v
  | .setThreshold v => fits 1 v
  | .setBlend v => fits 1 v
  | .setSettle v => fits 2 v
  | .setPreference rigs => fits 1 rigs.length
  | .queryEntry index => fits 1 index
  | .queryGroup number => fits 1 number
  | .lengthOutOfRange high low =>
    let n := high.toNat * 256 + low.toNat
    decide (n = 0 ∨ 250 < n)
  | .coldStart | .houseBlockBoundary _ | .startCountdownExpiry | .cueDebounceExpiry | .verifyCountdownExpiry _
  | .beatIntervalExpiry _ | .heldMessageTimerExpiry | .blockMessage _ _ | .slotExpiry _ | .silenceLimit _
  | .beatMessage _ _ | .outputFrame | .timeMessageEnd | .storeWriteEnd _ | .storeTimeout _ | .deskFrame _
  | .interByteTimeout | .transmitFrameEnd | .clearSet | .storeShow | .recallShow | .arm | .disarm | .go | .halt
  | .home | .release | .restart | .exclude _ | .admitRig _ | .setTriggers _ | .setRecover _ | .queryRig _
  | .queryTransport | .queryArbiter | .queryTakes | .querySettings | .powerRemoved _ | .startByte
  | .byteWithoutStopBit => true

end Sys2Proof
end

