-- ==== Sys2Proof/Certificates/Slice0/Obligations.lean ====
section
/-! DEFINITION. The statements about the PF3 that the provers are asked for: each `def Obligations.<Name> : Prop`, its
docstring naming the rules it formalises. A `Listening` state is one that takes a Command now; `answered` is the desk port
after its Reply; `kick` lets an idle transmit line start what waits (R179, DeskQueues). -/

open Sys2Proof Sys2Proof.Machine

/-! ## The step, power, reset -/

/-- A step takes the command at the front of the queue and runs its meaning with the rest; an empty queue idles (the
block's own queue: log entry 1). -/
def Obligations.StepRunsFront : Prop :=
  (∀ (c : Instr) (cs : List Instr) (s : State), step { s with pending := c :: cs } = exec c { s with pending := cs }) ∧
    ∀ s : State, s.pending = [] → step s = .next s

/-- The values after a cold start whose stored copy fails its check (R19, R21, R25, R47, R65, R90, R123, R130, R149,
R160, R166, R181), and the invariants below hold there. That the store has never been written is the model's choice
(log entry 18). -/
def Obligations.ResetState : Prop :=
  (let s := State.reset
   (s.block = 0 ∧ s.cond = .invalid ∧ s.unstored = true ∧ s.setList = [] ∧ s.prefs = [.A, .B, .C]) ∧
     s.settings = { rate := .r48, lead := 48, debounce := 8, triggers := ⟨true, false, false, false⟩, verify := 48,
                    slipWindow := 0, beat := 100, threshold := 3, recover := true, blend := 16, settle := 64 } ∧
     s.groups = [⟨1, ⟨1, 64, .blend, .silence, .follow⟩, .fallback, false, none⟩] ∧
     s.tr = { st := .idle, house := none, lead := none, jumpPending := false, plan := [], countdown := 0, latch := false,
              parkPending := false, endPending := false, cause := none, cueLevel := .low, cueCount := 0,
              rigCue := ⟨none, none, none⟩, heard := false } ∧
     (∀ r, s.port r = { link := .down, acquire := 0, expected := none, lastArrival := none, prevTag := none,
                        beatCode := none, line := [], lastRef := none }) ∧
     (∀ r, (s.tracker r).st = .offline ∧ (s.tracker r).tap = 0 ∧ (s.tracker r).cued = false ∧
       (s.tracker r).causes = ⟨false, false, false⟩ ∧ (s.tracker r).balance = 0 ∧ (s.tracker r).timer = none) ∧
     (s.arb.requests = [] ∧ s.arb.inService = [] ∧ s.sw.takes = [] ∧ s.sw.next = 0 ∧ s.grid = none) ∧
     (s.tc.value = ⟨0, 0, 0, 0⟩ ∧ s.tc.running = false ∧ s.tc.jump = false ∧ s.tc.held = .stopped) ∧
     s.desk.rx = .hunting ∧ s.desk.replies = [] ∧ s.desk.notices = [] ∧ s.desk.lost = false ∧
     s.desk.line = .notice ⟨.storeFailed .check .invalid true, 0, false⟩) ∧
  (let s := State.reset
   s.desk.Safe ∧ (∀ r, (s.tracker r).Safe) ∧ (∀ r, (s.port r).Safe) ∧ SetListSafe s.setList ∧ GroupsSafe s.groups ∧
     s.PlanSafe ∧ s.StoppedSafe ∧ s.ServiceSafe ∧ s.ExcludedSafe)

/-- COLD_START from any state (R19, R181): a good stored copy becomes the working contents; a bad one gives the
defaults, INVALID, UNSTORED and a STORE_FAILED notice with reason CHECK, the first that the line sends; every other
block takes the values of State.reset, and the retained store stays. A cold start with power on, the idle desk line it
begins with, and the queue and free count that pass it are the model's (log entry 17). POWER_REMOVED (R17): the unit
goes dead; a store operation in flight leaves a stored copy that is either whole or has no check, and otherwise the
stored copy stays. Without power only COLD_START has an effect (the model's choice: log entries 1 and 13). -/
def Obligations.PowerRules : Prop :=
  (∀ s : State,
     let sending := if s.power = true then s.tc.sending else none
     let fresh : State :=
       { State.reset with
         retained := s.retained, tc := { State.reset.tc with sending := sending }, freeCount := s.freeCount
         pending := s.pending }
     (∀ c, s.retained.contents = some c →
       exec .coldStart s = .next
         { fresh with
           setList := c.setList, groups := c.groups.map (fun g => ⟨g.1, g.2, .fallback, false, none⟩), prefs := c.prefs
           settings := c.settings, cond := .valid, unstored := false
           desk := { rx := .hunting, replies := [], notices := [], lost := false, line := .idle } }) ∧
     (s.retained.contents = none → exec .coldStart s = .next fresh)) ∧
  ((∀ (written : Nat) (s : State), s.power = true →
     ∃ t : State, exec (.powerRemoved written) s = .next t ∧ t.power = false ∧
       (s.cond.Settled → t.retained = s.retained) ∧
       (∀ c b, s.cond = .writing c b → c.bytes.length + 2 ≤ written → t.retained = ⟨c.bytes, some (crc16 c.bytes)⟩) ∧
       (∀ c b, s.cond = .writing c b → written < c.bytes.length + 2 → t.retained.contents = none) ∧
       t = { s with power := false, retained := t.retained, program := t.program, tc := t.tc, desk := t.desk }) ∧
     ∀ (c : Instr) (s : State), s.power = false → c ≠ .coldStart → exec c s = .next s)

/-! ## Invariants that every step keeps -/

/-- Every step keeps the desk port's queues in their bounds: at most 16 Replies and 32 Notices, and a Reply on the
line is the head of the reply queue (R172, R178, R179). -/
def Obligations.StepKeepsDesk : Prop :=
  ∀ s t : State, s.desk.Safe → step s = .next t → t.desk.Safe

/-- Every step keeps each tracker's tap within 0..4,064, its match count, runs and beat balance within their ranges,
each delay line within 128 records and each acquire count within 0..8 (R47, R55, R65, R73, R90, R101). -/
def Obligations.StepKeepsRecords : Prop :=
  ∀ s t : State, step s = .next t →
    ((∀ r, (s.tracker r).Safe) → ∀ r, (t.tracker r).Safe) ∧ ((∀ r, (s.port r).Safe) → ∀ r, (t.port r).Safe)

/-- Every step keeps the set list at no more than 48 entries, each as R2 to R5 require, with distinct codes, and the
group table at 1..8 groups in number order whose ranges share no channel; and no step but a cold start changes the set
list while the transport is STARTING or ROLLING (R1, R6, R149, R150, R151, R157). -/
def Obligations.StepKeepsContents : Prop :=
  ∀ s t : State, step s = .next t →
    (SetListSafe s.setList → SetListSafe t.setList) ∧ (GroupsSafe s.groups → GroupsSafe t.groups) ∧
      (s.pending.head? ≠ some .coldStart → s.tr.st = .starting ∨ s.tr.st = .rolling → t.setList = s.setList)

/-- Every step keeps the house position absent exactly in IDLE, the plan empty outside STARTING and ROLLING, and every
plan entry's code that of the set-list entry at its index (R1, R22, R23). -/
def Obligations.StepKeepsPlan : Prop :=
  ∀ s t : State, s.PlanSafe → step s = .next t → t.PlanSafe

/-- Every step keeps takes and requests to ROLLING, and every group on FALLBACK in IDLE (R33, R108, R123, R145, R149).
-/
def Obligations.StepKeepsStopped : Prop :=
  ∀ s t : State, s.StoppedSafe → step s = .next t → t.StoppedSafe

/-- Every step keeps each level in service owned by an open take and each open take owner of a level, levels and take
numbers distinct, the table in take-number order, engines with BLENDING takes alone, and each request at its cause's
level (R108, R110, R128, R136). -/
def Obligations.StepKeepsService : Prop :=
  ∀ s t : State, s.ServiceSafe → step s = .next t → t.ServiceSafe

/-- No step puts an EXCLUDED rig on air, makes it a take's target or marks it CUED (R79, R86, R113, R121). -/
def Obligations.StepKeepsExcluded : Prop :=
  ∀ s t : State, s.ExcludedSafe → step s = .next t → t.ExcludedSafe

/-- The tap of a rig that is the source of a group does not change in a step that begins and ends in ROLLING (R73). -/
def Obligations.TapFrozenOnAir : Prop :=
  ∀ (c : Instr) (s t : State) (r : Rig), s.tr.st = .rolling → s.onAir r = true → exec c s = .next t →
    t.tr.st = .rolling → (t.tracker r).tap = (s.tracker r).tap

/-! ## The settings (R175, R176) -/

/-- The settings that are clamped, and SET TRIGGERS: SET VERIFY, SET SLIP WINDOW, SET BLEND and SET SETTLE take the
nearest value of their range; SET BEAT INTERVAL the nearest multiple of 10 within 50..500 ms, the larger of two; SET
DEBOUNCE 2, 8 or 32 ms, a change returning the debouncer's count to 0; SET LEAD is refused BUSY in STARTING and
ROLLING. CLAMPED answers a value other than the one given; a change sets the UNSTORED mark; nothing else changes (R41,
R45, R83, R98, R100, R146, R175, R176). -/
def Obligations.RangedSettings : Prop :=
  (∀ (v : Nat) (s : State), s.Listening →
     let done (kind : Byte) (w : Nat) (x : Settings) : State :=
       (s.withSettings x).answered kind (if v = w then .accepted else .clamped) (.settings x s.prefs)
     (∃ w, Nearest 8 255 v w ∧ exec (.setVerify v) s = .next (done 0x44 w { s.settings with verify := w })) ∧
     (∃ w, Nearest 0 64 v w ∧ exec (.setSlipWindow v) s = .next (done 0x45 w { s.settings with slipWindow := w })) ∧
     (∃ w, Nearest 1 64 v w ∧ exec (.setBlend v) s = .next (done 0x49 w { s.settings with blend := w })) ∧
     ∃ w, Nearest 16 1024 v w ∧ exec (.setSettle v) s = .next (done 0x4A w { s.settings with settle := w })) ∧
  (∀ (v : Nat) (s : State), s.Listening →
     ∃ w, (w % 10 = 0 ∧ 50 ≤ w ∧ w ≤ 500) ∧ (v < 50 → w = 50) ∧ (500 < v → w = 500) ∧
       (50 ≤ v → v ≤ 500 → v < w + 5 ∧ w ≤ v + 5) ∧
       exec (.setBeatInterval v) s = .next
         ((s.withSettings { s.settings with beat := w }).answered 0x46 (if v = w then .accepted else .clamped)
           (.settings { s.settings with beat := w } s.prefs))) ∧
  (∀ (v : Nat) (s : State), s.Listening →
     ∃ w, (v ≤ 4 → w = 2) ∧ (5 ≤ v → v ≤ 19 → w = 8) ∧ (20 ≤ v → w = 32) ∧
       exec (.setDebounce v) s = .next
         (({ s with tr := { s.tr with cueCount := if w = s.settings.debounce then s.tr.cueCount else 0 } }.withSettings
             { s.settings with debounce := w }).answered 0x42 (if v = w then .accepted else .clamped)
           (.settings { s.settings with debounce := w } s.prefs))) ∧
  (∀ (v : Nat) (s : State), s.Listening →
     (s.tr.st = .starting ∨ s.tr.st = .rolling →
       exec (.setLead v) s = .next (s.answered 0x41 .busy (.settings s.settings s.prefs))) ∧
     (s.Stopped → ∃ w, Nearest 8 120 v w ∧
       exec (.setLead v) s = .next
         ((s.withSettings { s.settings with lead := w }).answered 0x41 (if v = w then .accepted else .clamped)
           (.settings { s.settings with lead := w } s.prefs)))) ∧
  (∀ (x : Triggers) (s : State), s.Listening →
     exec (.setTriggers x) s = .next
       ((s.withSettings { s.settings with triggers := x }).answered 0x43 .accepted
         (.settings { s.settings with triggers := x } s.prefs)))

/-- SET THRESHOLD (R124), SET RECOVER (R125), SET PREFERENCE (R126): what each refuses, the requests that each
withdraws, and the UNSTORED mark of a change; the in-service set stays. -/
def Obligations.ArbiterSettings : Prop :=
  (∀ (v : Nat) (s : State), s.Listening →
     (4 < v → exec (.setThreshold v) s = .next (s.answered 0x47 .badValue (.settings s.settings s.prefs))) ∧
     (v = s.settings.threshold → v ≤ 4 →
       exec (.setThreshold v) s = .next (s.answered 0x47 .accepted (.settings s.settings s.prefs))) ∧
     (v ≠ s.settings.threshold → v ≤ 4 →
       ∃ t : State, exec (.setThreshold v) s =
           .next (t.answered 0x47 .accepted (.settings { s.settings with threshold := v } s.prefs)) ∧
         (∀ q, q ∈ t.arb.requests ↔ q ∈ s.arb.requests ∧ (q.level < v ∨ 4 ≤ q.level)) ∧
         t = { s.withSettings { s.settings with threshold := v } with
               arb := { s.arb with requests := t.arb.requests } })) ∧
  (∀ (b : Bool) (s : State), s.Listening →
     ∃ t : State, exec (.setRecover b) s =
         .next (t.answered 0x48 .accepted (.settings { s.settings with recover := b } s.prefs)) ∧
       (b = true → t.arb.requests = s.arb.requests) ∧
       (b = false → ∀ q, q ∈ t.arb.requests ↔ q ∈ s.arb.requests ∧ q.cause ≠ .recover) ∧
       t = { s.withSettings { s.settings with recover := b } with arb := { s.arb with requests := t.arb.requests } }) ∧
  (∀ (rigs : List Source) (s : State), s.Listening →
     let no (r : Result) : Prop :=
       exec (.setPreference rigs) s = .next (s.answered 0x4B r (.settings s.settings s.prefs))
     (3 < rigs.length ∨ Source.fallback ∈ rigs → no .badValue) ∧
     ∀ rs : List Rig, rigs = rs.map Source.rig → rs.length ≤ 3 →
       (¬rs.Nodup → no .duplicate) ∧ (rs.Nodup → rs = s.prefs → no .accepted) ∧
       (rs.Nodup → rs ≠ s.prefs →
         exec (.setPreference rigs) s = .next
           ({ s with prefs := rs, unstored := true, cond := s.cond.noted }.answered 0x4B .accepted
             (.settings s.settings rs))))

/-- SET RATE is refused WRONG_STATE outside IDLE and BAD_VALUE for another value; the rate in force changes nothing; a
change drops every link, empties every delay line, takes every tracker not EXCLUDED to OFFLINE with only its tap and
its balance kept, keeps the others' records, makes the remembered CUE flags unknown and marks the contents UNSTORED
(R64, R67, R90, R41, R42); each link raises its RIG_STATE where it was not DOWN and its advisory FAULT where the
tracker was online (R63, R94, R106; their order, log entry 7). That the last Reference stays is log entry 7. -/
def Obligations.SetRate : Prop :=
  ∀ (v : Nat) (s : State), s.Listening →
    let no (r : Result) : Prop := exec (.setRate v) s = .next (s.answered 0x40 r (.settings s.settings s.prefs))
    (s.tr.st ≠ .idle → no .wrongState) ∧
    (s.tr.st = .idle → v ≠ 48000 → v ≠ 96000 → no .badValue) ∧
    (s.tr.st = .idle → v = s.settings.rate.frames → no .accepted) ∧
    (s.tr.st = .idle → s.sw.takes = [] → (v = 48000 ∨ v = 96000) → v ≠ s.settings.rate.frames →
      ∃ t : State, exec (.setRate v) s = .next t ∧ t.settings.rate.frames = v ∧
        t.settings = { s.settings with rate := t.settings.rate } ∧ t.unstored = true ∧ t.cond = s.cond.noted ∧
        (∀ r, t.port r = { link := .down, acquire := 0, expected := none, lastArrival := none, prevTag := none,
                           beatCode := none, line := [], lastRef := (s.port r).lastRef }) ∧
        (∀ r, (s.tracker r).st ≠ .excluded →
          t.tracker r = { Tracker.reset with tap := (s.tracker r).tap, balance := (s.tracker r).balance }) ∧
        (∀ r, (s.tracker r).st = .excluded → t.tracker r = s.tracker r) ∧
        t.tr = { s.tr with cueCount := 0, rigCue := ⟨none, none, none⟩ } ∧
        t.desk = (s.desk.offers ([.A, .B, .C].flatMap s.linkDrop) s.block).answered
          ⟨0x40, .accepted, .settings t.settings s.prefs⟩ ∧
        t = { s with settings := t.settings, unstored := true, cond := t.cond, ports := t.ports, trackers := t.trackers
                     tr := t.tr, desk := t.desk })

/-! ## The queries and the desk port's queues -/

/-- Each query gives its record as it stands, in every state, and changes nothing but the reply queue; it is refused
BAD_VALUE with class NONE when it names no entry, no group or no rig (R12, R174, R177). The role of a rig query before
any Reference is free (log entry 16). That the lead of the transport query is the bare triple without its marks (R22)
is the model's choice (log entry 14), and that a query before a row that has fallen due shows the state from before it
is log entry 3; the counts and the start frame that QUERY TAKES shows of a take that does not use them are log entry
21. -/
def Obligations.QueryAnswers : Prop :=
  (∀ s : State, s.Listening →
     exec .queryTransport s = .next (s.answered 0x53 .accepted (.query (.transport
       { block := s.block, st := s.tr.st, house := s.tr.house, lead := s.tr.lead.map (·.pos)
         jumpPending := s.tr.jumpPending, planCount := s.tr.plan.length, countdown := s.tr.countdown
         latch := s.tr.latch, parkPending := s.tr.parkPending, endPending := s.tr.endPending, cause := s.tr.cause
         leadBlocks := s.settings.lead, cueLevel := s.tr.cueLevel }))) ∧
     exec .queryArbiter s = .next (s.answered 0x54 .accepted
       (.query (.arbiter s.arb.requests s.arb.inService s.settings.threshold s.settings.recover s.prefs))) ∧
     (∃ e0 e1, exec .queryTakes s =
         .next (s.answered 0x55 .accepted (.query (.takes s.sw.next e0 e1 s.sw.takes))) ∧
       (∀ n, e0 = some n → ∃ t ∈ s.sw.takes, t.num = n ∧ t.engine = some false) ∧
       (e0 = none → ∀ t ∈ s.sw.takes, t.engine ≠ some false) ∧
       (∀ n, e1 = some n → ∃ t ∈ s.sw.takes, t.num = n ∧ t.engine = some true) ∧
       (e1 = none → ∀ t ∈ s.sw.takes, t.engine ≠ some true)) ∧
     exec .querySettings s = .next (s.answered 0x56 .accepted (.query (.settings s.settings s.prefs)))) ∧
  (∀ s : State, s.Listening →
     (∀ i e, s.setList[i]? = some e →
       exec (.queryEntry i) s = .next (s.answered 0x50 .accepted (.query (.entry e)))) ∧
     (∀ i, s.setList.length ≤ i → exec (.queryEntry i) s = .next (s.answered 0x50 .badValue .none)) ∧
     (∀ g ∈ s.groups, (∀ h ∈ s.groups, h.num = g.num → h = g) →
       exec (.queryGroup g.num) s = .next (s.answered 0x51 .accepted (.query (.group g)))) ∧
     (∀ n, (∀ g ∈ s.groups, g.num ≠ n) → exec (.queryGroup n) s = .next (s.answered 0x51 .badValue .none)) ∧
     exec (.queryRig .fallback) s = .next (s.answered 0x52 .badValue .none) ∧
     ∀ r : Rig,
       let p := s.port r
       let t := s.tracker r
       ∃ role n, (∀ ref, p.lastRef = some ref → role = ref.role ∧ n = s.freeCount) ∧
         exec (.queryRig (.rig r)) s = .next ({ s with freeCount := n }.answered 0x52 .accepted (.query (.rig
           { link := p.link, acquire := p.acquire, st := t.st, tap := t.tap, cued := t.cued, matchCount := t.matchCount
             verify := t.verify, notFound := t.notFound, causes := t.causes, badRun := t.badRun, goodRun := t.goodRun
             slipRun := t.slipRun, balance := t.balance, beatCode := p.beatCode, role := role }))))

/-- The reply queue (R172): a Command that ends while 1..15 Replies are queued is answered BUSY with class NONE and
not seen by its block, one that finds 16 is discarded. The notice queue (R178): an offered Notice joins at the tail
while the queue holds fewer than 32, carrying and clearing LOST, and is otherwise discarded and the lost flag set. The
line (R179): at the end of a frame it starts the oldest Reply, or else the head Notice, or is idle. -/
def Obligations.DeskQueues : Prop :=
  (∀ (c : Instr) (k : Byte) (s : State), commandKind c = some k → s.power = true → s.desk.replies ≠ [] →
     (s.desk.replies.length < 16 →
       exec c s = .next (kick { s with desk := { s.desk with replies := s.desk.replies ++ [⟨k, .busy, .none⟩] } })) ∧
     (16 ≤ s.desk.replies.length → exec c s = .next (kick s))) ∧
  (∀ (b : NoticeBody) (s : State),
     (s.desk.notices.length < 32 →
       raise b s = { s with desk := { s.desk with
         notices := s.desk.notices ++ [{ body := b, block := s.block, lost := s.desk.lost }], lost := false } }) ∧
     (32 ≤ s.desk.notices.length → raise b s = { s with desk := { s.desk with lost := true } })) ∧
  (∀ s : State, s.power = true →
     let rest : List Reply := if s.desk.line = .reply then s.desk.replies.tail else s.desk.replies
     let done (line : Line) (notices : List Notice) : State :=
       { s with desk := { s.desk with line := line, replies := rest, notices := notices } }
     (rest ≠ [] → exec .transmitFrameEnd s = .next (done .reply s.desk.notices)) ∧
     (rest = [] → ∀ n ns, s.desk.notices = n :: ns → exec .transmitFrameEnd s = .next (done (.notice n) ns)) ∧
     (rest = [] → s.desk.notices = [] → exec .transmitFrameEnd s = .next (done .idle [])))

/-- Every desk Command's frame, arriving at a hunting receiver, has the effect of the Command (R169, R170, R171): the
frame of section 10.1 with the Command's kind and its fields by R171's convention. The bytes of a rig operand and of
on or off are log entry 14's. -/
def Obligations.FramesSpellCommands : Prop :=
  ∀ (c : Instr) (k : Byte) (p : List Byte) (s : State), c.wellFormed = true → commandKind c = some k →
    commandPayload c = some p → p.length ≤ 249 → s.desk.rx = .hunting →
    ∃ t : State, exec c s = .next t ∧ exec (.deskFrame (deskFrameBytes k p)) s = .next t ∧ t.desk.rx = .hunting

/-- The receiver (R169, R170): a frame of a kind that is no command kind, or whose payload no well-formed Command of
its kind has, is answered BAD_VALUE with class NONE; one whose check disagrees, and bytes without a start byte, have
no effect; START_BYTE begins a frame; LENGTH_OUT_OF_RANGE, INTER_BYTE_TIMEOUT and BYTE_WITHOUT_STOP_BIT discard it.
That START_BYTE is the byte H'A5, that LENGTH_OUT_OF_RANGE is the two length bytes, and where hunting goes on after a
discard are the model's (log entry 15; the payload bytes, log entry 14). The events and the bad checks are stated
where the bytes hold no further start byte. -/
def Obligations.ReceiverRules : Prop :=
  (∀ s : State, s.Listening → s.desk.rx = .hunting →
     (∀ (k : Byte) (p : List Byte), p.length ≤ 249 →
       (k.toNat < 16 ∨ 96 ≤ k.toNat ∨ (k.toNat / 16 = 2 ∧ k.toNat ≠ 0x24 ∧ p ≠ [])) →
       exec (.deskFrame (deskFrameBytes k p)) s = .next (s.answered k .badValue .none)) ∧
     (∀ (k : Byte) (p : List Byte), p.length ≤ 249 →
       (¬(0x10 ≤ k.toNat ∧ k.toNat ≤ 0x14) ∧ ¬(0x20 ≤ k.toNat ∧ k.toNat ≤ 0x27) ∧
         ¬(0x30 ≤ k.toNat ∧ k.toNat ≤ 0x33) ∧ ¬(0x40 ≤ k.toNat ∧ k.toNat ≤ 0x4B) ∧
         ¬(0x50 ≤ k.toNat ∧ k.toNat ≤ 0x56)) →
       exec (.deskFrame (deskFrameBytes k p)) s = .next (s.answered k .badValue .none)) ∧
     (∀ (k : Byte) (p : List Byte), p.length ≤ 249 →
       (∀ c : Instr, c.wellFormed = true → commandKind c = some k → commandPayload c ≠ some p) →
       exec (.deskFrame (deskFrameBytes k p)) s = .next (s.answered k .badValue .none)) ∧
     (∀ (h l a b : Byte) (body : List Byte), 1 ≤ be2 h l → be2 h l ≤ 250 → body.length = be2 h l →
       (0xA5 : Byte) ∉ h :: l :: (body ++ [a, b]) → crcBytes (crc16 (h :: l :: body)) ≠ [a, b] →
       exec (.deskFrame (0xA5 :: h :: l :: (body ++ [a, b]))) s = .next (kick s)) ∧
     ∀ bytes : List Byte, (0xA5 : Byte) ∉ bytes → exec (.deskFrame bytes) s = .next (kick s)) ∧
  (∀ s : State, s.power = true →
     let with_ (rx : Receiver) : State := { s with desk := { s.desk with rx := rx } }
     (s.desk.rx = .hunting → exec .startByte s = .next (kick (with_ (.collecting []))) ∧
       (∀ h l : Byte, h ≠ 0xA5 → l ≠ 0xA5 → exec (.lengthOutOfRange h l) s = .next (kick s)) ∧
       exec .interByteTimeout s = .next (kick s) ∧ exec .byteWithoutStopBit s = .next (kick s)) ∧
     (s.desk.rx = .collecting [] → ∀ h l : Byte, (be2 h l = 0 ∨ 250 < be2 h l) → h ≠ 0xA5 → l ≠ 0xA5 →
       exec (.lengthOutOfRange h l) s = .next (kick (with_ .hunting))) ∧
     ∀ taken : List Byte, s.desk.rx = .collecting taken → (0xA5 : Byte) ∉ taken →
       exec .interByteTimeout s = .next (kick (with_ .hunting)) ∧
       exec .byteWithoutStopBit s = .next (kick (with_ .hunting)))

/-! ## The set list and the store (chapter 1) -/

/-- The checks of SET ENTRY in order: the first that fails decides the result, and nothing else changes (R6). -/
def Obligations.SetEntryRefused : Prop :=
  ∀ (index : Nat) (f : EntryFields) (s : State), s.Listening →
    let no (r : Result) : Prop := exec (.setEntry index f) s = .next (s.answered 0x10 r s.setListSummary)
    (¬s.Stopped → no .busy) ∧ (¬s.cond.Settled → no .busy) ∧
    (s.Stopped → s.cond.Settled →
      (s.setList.length < index → no .badValue) ∧
      (index = s.setList.length → index = 48 → no .full) ∧
      (index ≤ s.setList.length → ¬(index = s.setList.length ∧ index = 48) →
        (¬f.Valid → no .badValue) ∧
        (f.Valid → (∃ (j : Nat) (e : SegmentEntry), j ≠ index ∧ s.setList[j]? = some e ∧ e.code = f.code) →
          no .duplicate)))

/-- A SET ENTRY that passes every check appends at index count and replaces below it, marks the contents UNSTORED and
makes its edit report; nothing else changes (R7, R8). -/
def Obligations.SetEntryTaken : Prop :=
  ∀ (index : Nat) (e : SegmentEntry) (s : State), s.Listening → s.Stopped → s.cond.Settled → e.fields.Valid →
    (∀ (j : Nat) (x : SegmentEntry), s.setList[j]? = some x → x.code = e.code → j = index) →
    let f := e.fields
    (index = s.setList.length → index ≠ 48 →
      let t := editReport (.append index) { s with setList := s.setList ++ [e], unstored := true }
      exec (.setEntry index f) s =
        .next (t.answered 0x10 .accepted (.setList (s.setList.length + 1) s.cond.code true))) ∧
    (index < s.setList.length →
      let t := editReport (.replace index) { s with setList := s.setList.set index e, unstored := true }
      exec (.setEntry index f) s =
        .next (t.answered 0x10 .accepted (.setList s.setList.length s.cond.code true)))

/-- DROP ENTRY (R9) and CLEAR SET (R10): their refusals, the set list that each leaves, the UNSTORED mark and the edit
report; a CLEAR SET of an empty set list changes nothing. -/
def Obligations.DropAndClear : Prop :=
  (∀ (index : Nat) (s : State), s.Listening →
     let no (r : Result) : Prop := exec (.dropEntry index) s = .next (s.answered 0x11 r s.setListSummary)
     (¬s.Stopped → no .busy) ∧ (¬s.cond.Settled → no .busy) ∧
     (s.Stopped → s.cond.Settled →
       (s.setList.length ≤ index → no .badValue) ∧
       (index < s.setList.length →
         let t := editReport (.drop index)
           { s with setList := s.setList.take index ++ s.setList.drop (index + 1), unstored := true }
         exec (.dropEntry index) s =
           .next (t.answered 0x11 .accepted (.setList (s.setList.length - 1) s.cond.code true))))) ∧
  (∀ s : State, s.Listening →
     let no (r : Result) : Prop := exec .clearSet s = .next (s.answered 0x12 r s.setListSummary)
     (¬s.Stopped → no .busy) ∧ (¬s.cond.Settled → no .busy) ∧
     (s.Stopped → s.cond.Settled →
       (s.setList = [] → no .accepted) ∧
       (s.setList ≠ [] →
         let t := editReport .clear { s with setList := [], unstored := true }
         exec .clearSet s = .next (t.answered 0x12 .accepted (.setList 0 s.cond.code true)))))

/-- The re-resolution after an edit (R40; R158 for the groups' writes, R163 and R164 for the timecode): the first
condition that holds gives the outcome; outcomes 1 to 4 clear every CUED mark and raise a RIG_STATE for each tracker
that changed and a TRANSPORT notice with reason EDIT last (R46, R89, R104; their order, log entry 12); outcome 5, and
an edit in IDLE, change nothing. Of a tracker nothing else changes but a SLIP that clears with the rig's last group,
and of the requests those of a rig that lost its last FOLLOW group go (R99, R112). That a held message due goes with
the timer in IDLE is log entry 3. -/
def Obligations.EditReport : Prop :=
  ∀ (e : Edit) (h o p : Nat) (s : State), s.tr.house = some ⟨h, o, p⟩ →
    let t := editReport e s
    let raised (st : TState) (house : Option Pos) : Prop :=
      t.tr = { s.tr with st := st, house := house } ∧
        (∀ r, t.tracker r = { s.trackerAfter t.groups r with cued := false }) ∧
        t.arb = { s.arb with requests := s.requestsAfter t.groups } ∧
        t.desk = s.desk.offers
          (s.rigStates s.tracker (s.trackerAfter t.groups) ++ s.rigStates (s.trackerAfter t.groups) t.tracker ++
            [.transport .edit st house s.tr.cause]) s.block ∧
        t = { s with tr := t.tr, trackers := t.trackers, groups := t.groups, arb := t.arb, tc := t.tc, desk := t.desk }
    let hits : Prop := e = .replace h ∨ ∃ i, i ≤ h ∧ e = .drop i
    (s.tr.st ≠ .parked → s.tr.st ≠ .ended → t = s) ∧
    (s.tr.st = .parked ∨ s.tr.st = .ended →
      (s.setList = [] → raised .idle none ∧
        t.groups = s.groups.map (fun g => { g with source := .fallback, uncovered := false }) ∧ t.tc = tcIdle s.tc) ∧
      (∀ last, s.setList.getLast? = some last → s.setList.length ≤ h →
        raised .ended (some ⟨s.setList.length - 1, last.length - 1, 0⟩) ∧ t.groups = s.groups ∧
          t.tc = { s.tc with jump := true }) ∧
      (∀ x, s.setList[h]? = some x →
        (hits ∨ x.length ≤ o →
          raised s.tr.st (some ⟨h, 0, 0⟩) ∧ t.groups = s.groups ∧ t.tc = { s.tc with jump := true }) ∧
        (¬hits → o < x.length → t = s)))

/-- STORE SHOW (R15): refused BUSY while running or storing; when taken, the snapshot of the working contents is in
flight, the previous copy is no longer held, and nothing else changes. The end of a store operation (R17, R14): an
intact write gives VALID and a STORED notice, and clears the UNSTORED mark unless a change during the operation set
it; a copy whose check disagrees gives WRITE and the 2 s limit TIMEOUT, INVALID and UNSTORED; damage that the check
does not find leaves a good copy. Without an operation neither event does anything. The copy that is not held from
STORE SHOW to the end, and after a timeout, the operands that say damage and progress, and rows without an operation
are the model's (log entries 3 and 13). -/
def Obligations.StoreCommandAndEnds : Prop :=
  (∀ s : State, s.Listening →
     let no : Prop := exec .storeShow s = .next (s.answered 0x13 .busy s.setListSummary)
     (¬s.Stopped → no) ∧ (¬s.cond.Settled → no) ∧
     (s.Stopped → s.cond.Settled →
       ∃ t : State, exec .storeShow s =
           .next (t.answered 0x13 .accepted (.setList s.setList.length .writing s.unstored)) ∧
         t.cond = .writing ⟨s.setList, s.groups.map fun g => (g.num, g.gdef), s.prefs, s.settings⟩ false ∧
         t.retained.contents = none ∧ t = { s with cond := t.cond, retained := t.retained })) ∧
  (∀ s : State, s.power = true →
     (∀ c changed damage, s.cond = .writing c changed →
       crc16 (damage.foldl (fun bs d => bs.modify d.1 (· ^^^ d.2)) c.bytes) = crc16 c.bytes →
       ∃ t : State, exec (.storeWriteEnd damage) s = .next (kick (raise (.stored c.setList.length .valid t.unstored) t)) ∧
         t.unstored = (changed && s.unstored) ∧ t.cond = .valid ∧ (∃ x, t.retained.contents = some x ∧ x.ok = true) ∧
         (damage = [] → c.ok = true → t.retained.contents = some c) ∧
         t = { s with unstored := t.unstored, cond := t.cond, retained := t.retained }) ∧
     (∀ c changed damage, s.cond = .writing c changed →
       crc16 (damage.foldl (fun bs d => bs.modify d.1 (· ^^^ d.2)) c.bytes) ≠ crc16 c.bytes →
       ∃ t : State, exec (.storeWriteEnd damage) s = .next (kick (raise (.storeFailed .write .invalid true) t)) ∧
         t.retained.contents = none ∧ t = { s with unstored := true, cond := .invalid, retained := t.retained }) ∧
     (∀ c changed written, s.cond = .writing c changed →
       ∃ t : State, exec (.storeTimeout written) s = .next (kick (raise (.storeFailed .timeout .invalid true) t)) ∧
         t.retained.contents = none ∧ t = { s with unstored := true, cond := .invalid, retained := t.retained }) ∧
     (s.cond.Settled → ∀ damage written, exec (.storeWriteEnd damage) s = .next (kick s) ∧
       exec (.storeTimeout written) s = .next (kick s)))

/-- RECALL SHOW (R18): WRONG_STATE outside IDLE, BUSY while storing; a bad copy is refused STORE_FAILED and gives
INVALID and UNSTORED; a good copy replaces the working contents, with every group on FALLBACK, and keeps the
exclusions. With another house rate it acts on the links as SET RATE does (R64, R67, R90, R42): every link DOWN with
its delay line empty, every tracker not EXCLUDED OFFLINE with only its tap and its balance kept, the others' records
and the last References kept, the remembered CUE flags unknown, with the notices of SET RATE; with the same rate
ports, trackers, flags and notices stay. The cue count returns to 0 when the rate or the debounce time changes (R41).
That it stays otherwise is log entry 19, and that the last Reference stays, and the notices' order, log entry 7. -/
def Obligations.RecallShow : Prop :=
  ∀ s : State, s.Listening →
    let no (r : Result) : Prop := exec .recallShow s = .next (s.answered 0x14 r s.setListSummary)
    (s.tr.st ≠ .idle → no .wrongState) ∧
    (s.tr.st = .idle → ¬s.cond.Settled → no .busy) ∧
    (s.tr.st = .idle → s.cond.Settled →
      (s.retained.contents = none →
        exec .recallShow s = .next
          ({ s with cond := .invalid, unstored := true }.answered 0x14 .storeFailed
            (.setList s.setList.length .invalid true))) ∧
      (∀ c, s.retained.contents = some c → s.sw.takes = [] →
        ∃ t : State, exec .recallShow s = .next t ∧ t.setList = c.setList ∧
          t.groups = c.groups.map (fun g => ⟨g.1, g.2, .fallback, false, none⟩) ∧ t.prefs = c.prefs ∧
          t.settings = c.settings ∧ t.cond = .valid ∧ t.unstored = false ∧
          t.desk = (s.desk.offers (if s.settings.rate = c.settings.rate then [] else [.A, .B, .C].flatMap s.linkDrop)
            s.block).answered ⟨0x14, .accepted, .setList c.setList.length .valid false⟩ ∧
          (∀ r, (s.tracker r).st = .excluded ↔ (t.tracker r).st = .excluded) ∧
          t.tr = { s.tr with
            cueCount :=
              if s.settings.rate = c.settings.rate ∧ s.settings.debounce = c.settings.debounce then s.tr.cueCount else 0
            rigCue := t.tr.rigCue } ∧
          (s.settings.rate = c.settings.rate →
            t.ports = s.ports ∧ t.trackers = s.trackers ∧ t.tr.rigCue = s.tr.rigCue) ∧
          (s.settings.rate ≠ c.settings.rate →
            (∀ r, t.port r = { link := .down, acquire := 0, expected := none, lastArrival := none, prevTag := none,
                               beatCode := none, line := [], lastRef := (s.port r).lastRef }) ∧
            (∀ r, (s.tracker r).st ≠ .excluded →
              t.tracker r = { Tracker.reset with tap := (s.tracker r).tap, balance := (s.tracker r).balance }) ∧
            (∀ r, (s.tracker r).st = .excluded → t.tracker r = s.tracker r) ∧ t.tr.rigCue = ⟨none, none, none⟩) ∧
          t = { s with setList := t.setList, groups := t.groups, prefs := t.prefs, settings := t.settings
                       cond := .valid, unstored := false, ports := t.ports, trackers := t.trackers, tr := t.tr
                       desk := t.desk }))

/-- A stored copy reads back as the contents it was made from (R13, R14, R18). The copy's layout is the model's (log
entry 13). -/
def Obligations.StoreRoundTrip : Prop :=
  ∀ c : Contents, c.ok = true → (Contents.copy c).contents = some c

/-! ## The transport's commands (chapter 2) -/

/-- ARM (R32, R84, R163, R164): refused WRONG_STATE outside IDLE and BAD_VALUE without entries or groups; otherwise
PARKED at (0, 0, 0), every group on the first rig of the preference list that is not EXCLUDED, CUED cleared, READY and
VERIFYING trackers SEARCHING with not-found count and verify countdown 0, SETTLING ones with match count 0, the rest
of each record as it was, a RIG_STATE for each tracker that changed (R89), the TRANSPORT notice last (log entry 12).
That no group stands on a rig in IDLE is StepKeepsStopped's; the due marks that go, of a verify span and of a held
message, are log entry 3's. -/
def Obligations.ArmCommand : Prop :=
  ∀ s : State, s.Listening →
    let no (r : Result) : Prop := exec .arm s = .next (s.answered 0x20 r s.transportSummary)
    (s.tr.st ≠ .idle → no .wrongState) ∧
    (s.tr.st = .idle → (s.setList = [] ∨ s.groups = []) → no .badValue) ∧
    (s.tr.st = .idle → s.setList ≠ [] → s.groups ≠ [] → (∀ g ∈ s.groups, g.source = .fallback) →
      ∃ (t : State) (src : Source), exec .arm s = .next t ∧
        (src = .fallback → ∀ r ∈ s.prefs, (s.tracker r).st = .excluded) ∧
        (∀ r, src = .rig r → ∃ before after, s.prefs = before ++ r :: after ∧ (s.tracker r).st ≠ .excluded ∧
          ∀ x ∈ before, (s.tracker x).st = .excluded) ∧
        t.groups = s.groups.map (fun g => { g with source := src, uncovered := false }) ∧
        t.tr = { s.tr with st := .parked, house := some ⟨0, 0, 0⟩, lead := none, jumpPending := false, plan := []
                           latch := false, parkPending := false, endPending := false, cause := none } ∧
        (∀ r,
          let x : Tracker := { s.tracker r with cued := false }
          (x.st = .ready ∨ x.st = .verifying →
            t.tracker r = { x with st := .searching, notFound := 0, verify := 0, verifyDue := false }) ∧
          (x.st = .settling → t.tracker r = { x with matchCount := 0 }) ∧
          (x.st = .offline ∨ x.st = .searching ∨ x.st = .failed ∨ x.st = .excluded → t.tracker r = x)) ∧
        t.tc = { s.tc with jump := true, held := .first, heldDue := false } ∧
        t.desk = (s.desk.offers (s.rigStates s.tracker t.tracker ++ [.transport .arm .parked (some ⟨0, 0, 0⟩) none])
          s.block).answered ⟨0x20, .accepted, .transport .parked (some ⟨0, 0, 0⟩) none⟩ ∧
        t = { s with tr := t.tr, groups := t.groups, trackers := t.trackers, tc := t.tc, desk := t.desk })

/-- DISARM (R33; R157, R163, R164 for marks and timecode): PARKED and ENDED go to IDLE with every group on FALLBACK;
each tracker keeps its record but for a SLIP that clears with the rig's last group (R99, R158), and the requests of a
rig that lost its last FOLLOW group are withdrawn (R112); the RIG_STATE of each such SLIP comes before TRANSPORT (log
entry 12); in IDLE nothing changes; STARTING and ROLLING refuse WRONG_STATE. That CUED stays is log entry 19, and that
a held message due is dropped log entry 3. -/
def Obligations.DisarmCommand : Prop :=
  ∀ s : State, s.Listening →
    (s.tr.st = .idle → exec .disarm s = .next (s.answered 0x21 .accepted s.transportSummary)) ∧
    (¬s.Stopped → exec .disarm s = .next (s.answered 0x21 .wrongState s.transportSummary)) ∧
    (s.tr.st = .parked ∨ s.tr.st = .ended →
      ∃ t : State, exec .disarm s = .next t ∧ t.tr = { s.tr with st := .idle, house := none } ∧
        t.groups = s.groups.map (fun g => { g with source := .fallback, uncovered := false }) ∧
        t.tc = { s.tc with jump := false, held := .stopped, heldDue := false } ∧
        (∀ r, t.tracker r = s.trackerAfter t.groups r) ∧
        t.arb = { s.arb with requests := s.requestsAfter t.groups } ∧
        t.desk = (s.desk.offers (s.rigStates s.tracker t.tracker ++ [.transport .disarm .idle none s.tr.cause])
          s.block).answered ⟨0x21, .accepted, .transport .idle none s.tr.cause⟩ ∧
        t = { s with tr := t.tr, groups := t.groups, trackers := t.trackers, arb := t.arb, tc := t.tc, desk := t.desk })

/-- GO in PARKED (R34, R155): refused NO_SOURCE without a CUED rig, with no notice; otherwise FOLLOW groups that are
not on a CUED rig move to the first CUED rig of the preference list or to FALLBACK, marks are cleared on FOLLOW
groups, PINNED groups stay as they are, and STARTING begins from the house position with its notice last. Each tracker
keeps its record, CUED too (R80), but for a SLIP that clears with the rig's last group, and the requests of a rig that
lost its last FOLLOW group are withdrawn (R99, R112, R158); the RIG_STATE of each such SLIP comes before TRANSPORT
(log entry 12). -/
def Obligations.GoParked : Prop :=
  ∀ (s : State) (p : Pos), s.Listening → s.tr.st = .parked → s.tr.house = some p →
    ((∀ r, (s.tracker r).cued = false) → exec .go s = .next (s.answered 0x22 .noSource s.transportSummary)) ∧
    ((∃ r, (s.tracker r).cued = true) →
      ∃ (t : State) (src : Source), exec .go s = .next t ∧
        (src = .fallback → ∀ r ∈ s.prefs, (s.tracker r).cued = false) ∧
        (∀ r, src = .rig r → ∃ before after, s.prefs = before ++ r :: after ∧ (s.tracker r).cued = true ∧
          ∀ x ∈ before, (s.tracker x).cued = false) ∧
        t.groups.length = s.groups.length ∧
        (∀ (i : Nat) (g : Group), s.groups[i]? = some g →
          (g.gdef.follow = .pinned → t.groups[i]? = some g) ∧
          (g.gdef.follow = .follow → ∀ r, g.source = .rig r → (s.tracker r).cued = true →
            t.groups[i]? = some { g with uncovered := false }) ∧
          (g.gdef.follow = .follow → (∀ r, g.source = .rig r → (s.tracker r).cued = false) →
            t.groups[i]? = some { g with source := src, uncovered := false })) ∧
        t.tr = { s.tr with
          st := .starting, lead := some ⟨⟨p.index, p.offset, 0⟩, { jump := true, segmentStart := p.offset == 0 }⟩
          jumpPending := true, countdown := s.settings.lead, latch := false, cause := some ⟨.go, .desk, s.block⟩
          heard := false } ∧
        t.desk = (s.desk.offers
          (s.rigStates s.tracker t.tracker ++ [.transport .go .starting (some p) (some ⟨.go, .desk, s.block⟩)])
          s.block).answered ⟨0x22, .accepted, .transport .starting (some p) (some ⟨.go, .desk, s.block⟩)⟩ ∧
        (∀ r, t.tracker r = s.trackerAfter t.groups r) ∧
        t.arb = { s.arb with requests := s.requestsAfter t.groups } ∧
        t = { s with tr := t.tr, groups := t.groups, trackers := t.trackers, arb := t.arb, desk := t.desk })

/-- GO is refused WRONG_STATE outside PARKED unless a park is pending in ROLLING; there it cancels the park (R35):
park-pending is cleared, the tail loses LAST, the next entry follows as a SEGMENT_START, and appends go on until the
plan holds lead_blocks entries with both pendings clear, or one of them is set anew at a tail that the append has
marked LAST. The bound on the catch-up is log entry 10's. -/
def Obligations.GoRolling : Prop :=
  ∀ s : State, s.Listening →
    (s.tr.st = .idle ∨ s.tr.st = .starting ∨ s.tr.st = .ended ∨ (s.tr.st = .rolling ∧ s.tr.parkPending = false) →
      exec .go s = .next (s.answered 0x22 .wrongState s.transportSummary)) ∧
    ∀ (l : LeadPos) (e : SegmentEntry), s.tr.st = .rolling → s.tr.parkPending = true → s.tr.endPending = false →
      s.tr.lead = some l → s.setList[l.pos.index + 1]? = some e → s.tr.plan.length < s.settings.lead →
      s.settings.lead ≤ 120 →
      let cancelled : List PlanEntry :=
        s.tr.plan.modify (s.tr.plan.length - 1) fun x => { x with marks := { x.marks with last := false } }
      let u : State := { s with tr := { s.tr with
        plan := cancelled ++ [⟨l.pos.index + 1, e.code, 0, 0, { segmentStart := true }⟩]
        lead := some ⟨⟨l.pos.index + 1, 0, 0⟩, { segmentStart := true }⟩
        parkPending := false, cause := some ⟨.go, .desk, s.block⟩ } }
      ∃ (t : State) (m : Marks) (more : List PlanEntry), CaughtUp u t ∧
        exec .go s =
          .next (t.answered 0x22 .accepted (.transport .rolling s.tr.house (some ⟨.go, .desk, s.block⟩))) ∧
        t.tr.plan = cancelled ++ ⟨l.pos.index + 1, e.code, 0, 0, m⟩ :: more ∧ m.segmentStart = true ∧
        ((t.tr.plan.length = s.settings.lead ∧ t.tr.parkPending = false ∧ t.tr.endPending = false) ∨
          (t.tr.plan.length < s.settings.lead ∧ t.tr.parkPending = !t.tr.endPending ∧
            ∃ x, t.tr.plan.getLast? = some x ∧ x.marks.last = true)) ∧
        t.tr.st = .rolling ∧ t.tr.house = s.tr.house ∧ t.tr.cause = some ⟨.go, .desk, s.block⟩ ∧
        t = { s with tr := t.tr, desk := t.desk }

/-- LOCATE and HOME (R36, R37, R80, R163): WRONG_STATE in IDLE, BAD_VALUE for a target outside the set list. In PARKED
and ENDED the house takes the target, PARKED, and CUED is cleared with a RIG_STATE each before TRANSPORT (R80, log
entry 12). STARTING starts again from the target. ROLLING with no pending keeps its plan and makes the target the
pending jump. With a park or end pending the pending is cleared, the tail loses LAST, the target follows at once as a
JUMP, and appends go on until the plan holds lead_blocks entries with both pendings clear, or one of them is set anew
at a tail marked LAST; the latch and jump-pending are clear then. That a LOCATE at countdown 0, with the change to
ROLLING due and not taken, acts as in STARTING is log entry 3. -/
def Obligations.LocateCommand : Prop :=
  (∀ (c : Instr) (k : Byte) (i o : Nat) (s : State), Locates c k i o → s.Listening →
     let no (r : Result) : Prop := exec c s = .next (s.answered k r s.transportSummary)
     (s.tr.st = .idle → no .wrongState) ∧
     (s.tr.st ≠ .idle → (∀ e, s.setList[i]? = some e → e.length ≤ o) → no .badValue) ∧
     (s.tr.st = .parked ∨ s.tr.st = .ended → ∀ e, s.setList[i]? = some e → o < e.length →
       ∃ t : State, exec c s = .next t ∧ t.tr = { s.tr with st := .parked, house := some ⟨i, o, 0⟩ } ∧
         (∀ r, t.tracker r = { s.tracker r with cued := false }) ∧ t.tc = { s.tc with jump := true } ∧
         t.desk = (s.desk.offers
           (s.rigStates s.tracker t.tracker ++ [.transport .locate .parked (some ⟨i, o, 0⟩) s.tr.cause])
           s.block).answered ⟨k, .accepted, .transport .parked (some ⟨i, o, 0⟩) s.tr.cause⟩ ∧
         t = { s with tr := t.tr, trackers := t.trackers, tc := t.tc, desk := t.desk })) ∧
  (∀ (c : Instr) (k : Byte) (i o : Nat) (e : SegmentEntry) (s : State), Locates c k i o → s.Listening →
     s.setList[i]? = some e → o < e.length →
     let lead : Option LeadPos := some ⟨⟨i, o, 0⟩, { jump := true, segmentStart := o == 0 }⟩
     (s.tr.st = .starting →
       let house : Option Pos := some ⟨i, o, 0⟩
       exec c s = .next
         (({ s with
             tr := { s.tr with plan := [], house := house, lead := lead, jumpPending := true
                               countdown := s.settings.lead, latch := false, parkPending := false, endPending := false }
             tc := { s.tc with jump := true }
             desk := s.desk.offer (.transport .locate .starting house s.tr.cause) s.block } : State).answered k .accepted
           (.transport .starting house s.tr.cause))) ∧
     (s.tr.st = .rolling → s.tr.parkPending = false → s.tr.endPending = false →
       exec c s = .next
         (({ s with
             tr := { s.tr with lead := lead, jumpPending := true, latch := false }
             desk := s.desk.offer (.transport .locate .rolling s.tr.house s.tr.cause) s.block } : State).answered k
           .accepted (.transport .rolling s.tr.house s.tr.cause))) ∧
     (s.tr.st = .rolling → (s.tr.parkPending = true ∨ s.tr.endPending = true) →
       s.tr.plan.length < s.settings.lead → s.settings.lead ≤ 120 →
       let cancelled : List PlanEntry :=
         s.tr.plan.modify (s.tr.plan.length - 1) fun x => { x with marks := { x.marks with last := false } }
       let u : State := { s with tr := { s.tr with
         plan := cancelled, lead := lead, jumpPending := true, latch := false, parkPending := false
         endPending := false } }
       ∃ (t : State) (m : Marks) (more : List PlanEntry), CaughtUp u t ∧
         exec c s = .next ((raise (.transport .locate .rolling s.tr.house s.tr.cause) t).answered k .accepted
           (.transport .rolling s.tr.house s.tr.cause)) ∧
         t.tr.plan = cancelled ++ ⟨i, e.code, o, 0, m⟩ :: more ∧ m.jump = true ∧ m.segmentStart = (o == 0) ∧
         ((t.tr.plan.length = s.settings.lead ∧ t.tr.parkPending = false ∧ t.tr.endPending = false) ∨
           (t.tr.plan.length < s.settings.lead ∧ t.tr.parkPending = !t.tr.endPending ∧
             ∃ x, t.tr.plan.getLast? = some x ∧ x.marks.last = true)) ∧
         t.tr.latch = false ∧ t.tr.jumpPending = false ∧ t.tr.st = .rolling ∧ t.tr.house = s.tr.house ∧
         t.tr.cause = s.tr.cause ∧ t = { s with tr := t.tr, desk := t.desk }))

/-- HALT (R38, R46, R80, R123, R145, R164, R166): a run stops and parks where the house stands with pass 0; every take
closes, members of BLENDING and SETTLING takes, and INCOMING ones, landing on their targets, every other group as it
was; requests and levels in service go; CUED is cleared; the click grid is absent. The notices are a RIG_STATE for
each CUED mark cleared and for each SLIP cleared, TAKE_SETTLED for each take, and TRANSPORT last (R89, R104, R148;
their order, log entry 12). Outside STARTING and ROLLING nothing changes. Of a tracker nothing else changes but a SLIP
that clears with the rig's last group (R99, R158). That a held message due and not yet formed is dropped, and that a
run at countdown 0 is stopped as STARTING, is the model's (log entry 3). -/
def Obligations.HaltCommand : Prop :=
  ∀ s : State, s.Listening →
    (s.Stopped → exec .halt s = .next (s.answered 0x23 .accepted s.transportSummary)) ∧
    (¬s.Stopped → ∀ p, s.tr.house = some p → (∀ x ∈ s.arb.inService, ∃ u ∈ s.sw.takes, u.num = x.2) →
      ∃ t : State, exec .halt s = .next t ∧
        t.tr = { s.tr with
          st := .parked, house := some { p with pass := 0 }, lead := none, jumpPending := false, plan := []
          countdown := 0, latch := false, parkPending := false, endPending := false, heard := false } ∧
        t.sw = { s.sw with takes := [] } ∧ t.arb = ⟨[], []⟩ ∧ t.grid = none ∧
        t.tc = { s.tc with held := .first, heldDue := false } ∧
        (∀ r, t.tracker r = { s.trackerAfter t.groups r with cued := false }) ∧
        t.groups.length = s.groups.length ∧
        (∀ (i : Nat) (g : Group), s.groups[i]? = some g →
          ((∀ u ∈ s.sw.takes, ∀ m ∈ u.members, m.group ≠ g.num) → t.groups[i]? = some g) ∧
          ((s.sw.takes.flatMap fun u => u.members.map (·.group)).Nodup →
            ∀ u ∈ s.sw.takes, ∀ m ∈ u.members, m.group = g.num →
              (u.st = .waiting → m.stage ≠ .incoming → t.groups[i]? = some g) ∧
              (u.st ≠ .waiting ∨ m.stage = .incoming → t.groups[i]? = some { g with
                source := u.target, uncovered := false
                last := some ⟨u.num, u.cause, m.src, u.target,
                  if u.st = .waiting then none else some (frameBlock u.startFrame)⟩ }))) ∧
        (let uncued (r : Rig) : Tracker := { s.tracker r with cued := false }
         t.desk = (s.desk.offers
          (s.rigStates s.tracker uncued ++ s.rigStates uncued t.tracker ++
            s.sw.takes.map (Take.closedAt .halt t.groups) ++ [.transport .halt .parked t.tr.house s.tr.cause])
          s.block).answered ⟨0x23, .accepted, .transport .parked t.tr.house s.tr.cause⟩) ∧
        t = { s with tr := t.tr, sw := t.sw, arb := t.arb, grid := none, tc := t.tc, trackers := t.trackers
                     groups := t.groups, desk := t.desk })

/-- RELEASE (R39): taken while running with no park or end pending, the lead's entry having a vamp that the lead has
not passed; it sets the latch and the start cause, or nothing when the latch is set; otherwise WRONG_STATE. -/
def Obligations.ReleaseCommand : Prop :=
  ∀ s : State, s.Listening →
    let may : Prop := ¬s.Stopped ∧ s.tr.parkPending = false ∧ s.tr.endPending = false ∧
      ∃ l e v, s.tr.lead = some l ∧ s.setList[l.pos.index]? = some e ∧ e.vamp = some v ∧ l.pos.offset < v.vampOut
    (¬may → exec .release s = .next (s.answered 0x26 .wrongState s.transportSummary)) ∧
    (may → s.tr.latch = true → exec .release s = .next (s.answered 0x26 .accepted s.transportSummary)) ∧
    (may → s.tr.latch = false →
      exec .release s = .next
        ({ s with tr := { s.tr with latch := true, cause := some ⟨.release, .desk, s.block⟩ } }.answered 0x26 .accepted
          (.transport s.tr.st s.tr.house (some ⟨.release, .desk, s.block⟩))))

/-- RESTART (R180, with R20, R25, R47, R65, R90, R123, R130, R149, R160, R166): taken in every state; the show, the
settings, the ports, the exclusions, the house block and its phase, the program samples, the last take records and the
frames being sent stay, as log entry 17 reads R180; everything else takes its cold-start value; an EXCLUDED tracker
stays so, and one whose link is LOCKED goes to SEARCHING; a store operation is ABANDONED. The notice queue is emptied,
then takes STORE_FAILED of an abandoned operation and the RIG_STATE of each tracker that left OFFLINE, in port order;
the Reply stands alone in its queue and starts on an idle line. -/
def Obligations.RestartCommand : Prop :=
  ∀ s : State, s.Listening →
    ∃ t : State, exec .restart s = .next t ∧
      t.tr = State.reset.tr ∧ t.arb = ⟨[], []⟩ ∧ t.sw = ⟨[], 0⟩ ∧ t.grid = none ∧
      t.tc = { State.reset.tc with sending := s.tc.sending } ∧
      t.groups = s.groups.map (fun g => { g with source := .fallback, uncovered := false }) ∧
      (∀ r, (s.tracker r).st = .excluded → t.tracker r = { State.reset.trackers.a with st := .excluded }) ∧
      (∀ r, (s.tracker r).st ≠ .excluded → (s.port r).link ≠ .locked → t.tracker r = State.reset.trackers.a) ∧
      (∀ r, (s.tracker r).st ≠ .excluded → (s.port r).link = .locked →
        t.tracker r = { State.reset.trackers.a with st := .searching, timer := some 0 }) ∧
      (s.cond.Settled → t.cond = s.cond ∧ t.unstored = s.unstored ∧ t.retained = s.retained) ∧
      (¬s.cond.Settled → t.cond = .invalid ∧ t.unstored = true ∧ t.retained.contents = none) ∧
      (let abandoned : List NoticeBody :=
        if s.cond.code = .writing then [.storeFailed .abandoned .invalid true] else []
       let arrived : List NoticeBody :=
        ([.A, .B, .C].filter fun r =>
          decide ((s.tracker r).st ≠ .excluded ∧ (s.port r).link = .locked)).map fun r =>
            .rigState r .locked .searching false 0 ⟨false, false, false⟩ false
       let emptied : Desk := { notices := [], lost := false, replies := [], line := s.desk.line, rx := .hunting }
       t.desk = (emptied.offers (abandoned ++ arrived) s.block).answered
        ⟨0x27, .accepted, .transport .idle none none⟩) ∧
      t = { s with tr := t.tr, arb := t.arb, sw := t.sw, grid := none, tc := t.tc, groups := t.groups
                   trackers := t.trackers, cond := t.cond, unstored := t.unstored, retained := t.retained
                   desk := t.desk, freeCount := t.freeCount }

/-! ## The clock and the plan (chapter 2) -/

/-- HOUSE_BLOCK_BOUNDARY in every state (R21, R61): the block number rises by 1 with its wrap, the block's first frame
is next, and each port sends its rig one Reference of the new block with the state, newest position, role, beat
interval and lead in force. With nothing left due, and no run ended by it, groups, requests, levels in service, show
and settings stay; in IDLE, PARKED and ENDED the transport only samples the cue input (section 2.3, R41), an empty
take table stays and no notice is raised. The role is the first of R62's four that holds, so at most one rig is COVER.
That the Reference at countdown 0 carries ROLLING, and that it shows nothing else that falls due at this boundary and
is taken by a row of its own, is log entry 4, and that a boundary sets the phase to 0 whatever it was is log entry 5.
-/
def Obligations.BoundaryStep : Prop :=
  (∀ (cue : Level) (s : State), s.power = true →
     ∃ t : State, exec (.houseBlockBoundary cue) s = .next t ∧ t.block = s.block + 1 ∧ t.phase = 0 ∧
       t.settings = s.settings ∧ t.setList = s.setList ∧ t.prefs = s.prefs ∧ t.program = s.program ∧
       (∀ r, ∃ ref, t.port r = { s.port r with lastRef := some ref } ∧ ref.block = s.block + 1 ∧
         ref.role = t.role r ∧ ref.beat = s.settings.beat ∧ ref.lead = s.settings.lead ∧
         (ref.position = match t.tr.plan.getLast? with
           | some e => some e
           | none => t.housePlan) ∧
         ref.st = (if t.tr.st = .starting ∧ t.tr.countdown = 0 then .rolling else t.tr.st)) ∧
       (s.NothingDue → (s.tr.st = .rolling → s.tr.plan ≠ []) →
         t = { s with block := s.block + 1, phase := 0, tr := t.tr, ports := t.ports, trackers := t.trackers
                      sw := t.sw, tc := t.tc, grid := t.grid, desk := t.desk }) ∧
       (s.NothingDue → s.tr.st = .idle ∨ s.tr.st = .parked ∨ s.tr.st = .ended →
         t.tr = { s.tr with cueCount := if cue = s.tr.cueLevel then 0 else s.tr.cueCount + 1 } ∧
         t.desk = s.desk.kick ∧ t.grid = none ∧ (s.sw.takes = [] → t.sw = s.sw))) ∧
  (∀ s : State,
     (∀ r,
       ((s.tracker r).st = .excluded → s.role r = .excluded) ∧
       ((s.tracker r).st ≠ .excluded → (∃ g ∈ s.groups, g.source = .rig r) → s.role r = .air) ∧
       ((s.tracker r).st ≠ .excluded → (∀ g ∈ s.groups, g.source ≠ .rig r) →
         (s.role r = .cover ∨ s.role r = .standby) ∧
         (s.role r = .cover ↔ ∃ before after, s.prefs = before ++ r :: after ∧ (s.tracker r).st = .ready ∧
           ∀ x ∈ before, (s.tracker x).st ≠ .ready ∨ ∃ g ∈ s.groups, g.source = .rig x))) ∧
     ∀ r x, s.role r = .cover → s.role x = .cover → r = x)

/-- The append (R26 to R28): a pending jump is written with mark JUMP; otherwise the five tests in order, with
VAMP_DECIDED at each crossing of vamp-out, also where vamp-out is the segment's length and the vamp is passed by
release or limit: then the next entry follows (test 4), or the tail is marked LAST and a pending set (test 5). A
decision names the pass and the house block of the entry last appended, which after test 5 is the tail (log entry 10).
-/
def Obligations.AppendRules : Prop :=
  ∀ (countdown : Nat) (l : LeadPos) (e : SegmentEntry) (s : State), s.tr.lead = some l →
    s.setList[l.pos.index]? = some e →
    let i := l.pos.index
    let o := l.pos.offset
    let p := l.pos.pass
    let limit (v : Vamp) : Nat := match v.passLimit with
      | some n => n
      | none => 255
    let add (u : State) (x : PlanEntry) : State :=
      { u with tr := { u.tr with plan := u.tr.plan ++ [x], lead := some ⟨⟨x.index, x.offset, x.pass⟩, x.marks⟩ } }
    let decided (d : Decision) (pass : Nat) (u : State) : State :=
      raise (.vampDecided i e.code d pass (s.block + BitVec.ofNat 32 (countdown + u.tr.plan.length))) u
    let passed (v : Option Vamp) : Prop := ∀ w, v = some w → o + 1 ≠ w.vampOut
    let pend (u : State) : State :=
      { u with tr := { u.tr with
        plan := u.tr.plan.modify (u.tr.plan.length - 1) fun x => { x with marks := { x.marks with last := true } }
        lead := some ⟨l.pos, { l.marks with last := true }⟩
        endPending := u.tr.endPending || decide (i + 1 = s.setList.length)
        parkPending := u.tr.parkPending || !decide (i + 1 = s.setList.length) } }
    let unlatched : State := { s with tr := { s.tr with latch := false } }
    (s.tr.jumpPending = true →
      append countdown s =
        { add s ⟨i, e.code, o, 0, { jump := true, segmentStart := o == 0 }⟩ with
          tr := { (add s ⟨i, e.code, o, 0, { jump := true, segmentStart := o == 0 }⟩).tr with jumpPending := false } }) ∧
    (s.tr.jumpPending = false →
      (∀ v, e.vamp = some v → o + 1 = v.vampOut → s.tr.latch = false → p + 1 < limit v →
        append countdown s = decided .loop (p + 1) (add s ⟨i, e.code, v.vampIn, p + 1, { loop := true }⟩)) ∧
      (∀ v, e.vamp = some v → o + 1 = v.vampOut → s.tr.latch = true → o + 1 < e.length →
        append countdown s = decided .release p
          (add { s with tr := { s.tr with latch := false } } ⟨i, e.code, o + 1, p, {}⟩)) ∧
      (∀ v, e.vamp = some v → o + 1 = v.vampOut → s.tr.latch = false → limit v ≤ p + 1 → o + 1 < e.length →
        append countdown s = decided .limit p (add s ⟨i, e.code, o + 1, p, {}⟩)) ∧
      (passed e.vamp → o + 1 < e.length → append countdown s = add s ⟨i, e.code, o + 1, p, {}⟩) ∧
      (∀ n, passed e.vamp → o + 1 = e.length → e.endAction = .next → s.setList[i + 1]? = some n →
        append countdown s = add s ⟨i + 1, n.code, 0, 0, { segmentStart := true }⟩) ∧
      (passed e.vamp → o + 1 = e.length → (e.endAction = .park ∨ i + 1 = s.setList.length) →
        let t := append countdown s
        t.tr.plan.length = s.tr.plan.length ∧
          (∀ x, t.tr.plan.getLast? = some x → x.marks.last = true) ∧
          (t.tr.lead.map (·.pos) = some l.pos) ∧
          (i + 1 = s.setList.length → t.tr.endPending = true ∧ t.tr.parkPending = s.tr.parkPending) ∧
          (i + 1 ≠ s.setList.length → t.tr.parkPending = true ∧ t.tr.endPending = s.tr.endPending) ∧
          t = pend s) ∧
      (∀ v, e.vamp = some v → o + 1 = v.vampOut → o + 1 = e.length → (s.tr.latch = true ∨ limit v ≤ p + 1) →
        let d : Decision := if s.tr.latch = true then .release else .limit
        (∀ n, e.endAction = .next → s.setList[i + 1]? = some n →
          append countdown s = decided d 0 (add unlatched ⟨i + 1, n.code, 0, 0, { segmentStart := true }⟩)) ∧
        (∀ x, (e.endAction = .park ∨ i + 1 = s.setList.length) → s.tr.plan.getLast? = some x →
          append countdown s = decided d x.pass (pend unlatched))))

/-- A boundary while running, with nothing left due. STARTING (R29): one append with all it does (R26 to R28,
AppendRules) unless a pending stands, the countdown one lower. ROLLING (R30): the head entry becomes the house
position, then one append; SEGMENT_START raises its notice; a JUMP turns READY trackers VERIFYING with the verify span
and a RIG_STATE each, and otherwise the span falls and at its end is marked due (R81, R82, R89). Takes (R133, R139,
R140): a WAITING take starts when its target is FALLBACK, all its members are INCOMING, or the target is READY or
VERIFYING and the frame at its tap is present (R59); otherwise it waits, and at the fourth missed boundary its wait is
due; a ramp counts the frames since its start and ends at the blend length; a settle countdown falls to its end.
Timers: the cue sample counts while it differs (R41); a tracker's beat timer rises and is due at the beat interval
(R100); the held message is due at once and then every 100 ms, and is stopped where the segment has a timecode part
(R164, entry 20 for a JUMP within a segment); in ROLLING the grid is that of the house position's tempo with a burst
of 960 or 1,920 frames, and otherwise absent (R166). Marks of what is due are log entry 3; the order within a
boundary, the block that an append in STARTING names, and a verify span that does not fall at its own JUMP, log entry
4; the pass and block a decision names, log entry 10. The rest of a tracker's record stays. The start frame of a take
that missed the boundary is log entry 21. -/
def Obligations.RunningBoundary : Prop :=
  (∀ (cue : Level) (s : State), s.power = true → s.NothingDue →
     let once (n : Nat) (u : State) : State :=
       if u.tr.parkPending = true ∨ u.tr.endPending = true then u else append n u
     let count : Nat := if cue = s.tr.cueLevel then 0 else s.tr.cueCount + 1
     (∀ n, s.tr.st = .starting → s.tr.countdown = n + 1 →
       let v : State := once n { s with block := s.block + 1 }
       ∃ t : State, exec (.houseBlockBoundary cue) s = .next t ∧ t.tr.st = .starting ∧ t.tr.house = s.tr.house ∧
         t.tr = { v.tr with countdown := n, cueCount := count } ∧ t.desk = v.desk.kick ∧ t.groups = s.groups ∧
         t.arb = s.arb ∧ t.grid = none) ∧
     (∀ e rest, s.tr.st = .rolling → s.tr.plan = e :: rest →
       let begun : List NoticeBody :=
         if e.marks.segmentStart = true then [.segmentStart e.index e.code e.marks.jump] else []
       let lost : List NoticeBody :=
         if e.marks.jump = true then
           ([.A, .B, .C].filter fun r => (s.tracker r).st == .ready).map fun r =>
             .rigState r (s.port r).link .verifying (s.tracker r).cued (s.tracker r).tap (s.tracker r).causes false
         else []
       let v : State := once 0
         { s with block := s.block + 1, desk := s.desk.offers (begun ++ lost) (s.block + 1)
                  tr := { s.tr with house := some ⟨e.index, e.offset, e.pass⟩, plan := rest, heard := true } }
       ∃ t : State, exec (.houseBlockBoundary cue) s = .next t ∧ t.tr.st = .rolling ∧
         t.tr.house = some ⟨e.index, e.offset, e.pass⟩ ∧ t.tr.heard = true ∧
         t.tr = { v.tr with cueCount := count } ∧ t.desk = v.desk.kick ∧ t.groups = s.groups ∧ t.arb = s.arb ∧
         (e.marks.jump = true → ∀ r,
           ((s.tracker r).st = .ready ∨ (s.tracker r).st = .verifying → (t.tracker r).st = .verifying ∧
             (t.tracker r).verify = s.settings.verify)) ∧
         (e.marks.jump = true → ∀ r, (t.tracker r).verifyDue = false) ∧
         (∀ r, (s.tracker r).st ≠ .ready → (s.tracker r).st ≠ .verifying →
           (t.tracker r).st = (s.tracker r).st ∧ (t.tracker r).verify = (s.tracker r).verify) ∧
         (e.marks.jump = false → ∀ r, (s.tracker r).st ≠ .verifying →
           (t.tracker r).verify = (s.tracker r).verify ∧ (t.tracker r).verifyDue = false) ∧
         (e.marks.jump = false → ∀ r, (t.tracker r).st = (s.tracker r).st ∧
           ((s.tracker r).st = .verifying → (t.tracker r).verify = (s.tracker r).verify - 1 ∧
             ((t.tracker r).verifyDue = true ↔ (s.tracker r).verify ≤ 1))))) ∧
  (∀ (cue : Level) (s : State), s.power = true → s.NothingDue → (s.tr.st = .rolling → s.tr.plan ≠ []) →
     let start : HouseFrame := firstFrame (s.block + 1)
     let can (u : Take) : Prop :=
       u.target = .fallback ∨ (∀ m ∈ u.members, m.stage = .incoming) ∨
         ∃ r, u.target = .rig r ∧ ((s.tracker r).st = .ready ∨ (s.tracker r).st = .verifying) ∧
           framePresent (s.port r).line (start - BitVec.ofNat 37 (s.tracker r).tap) = true
     ∃ t : State, exec (.houseBlockBoundary cue) s = .next t ∧ t.sw.next = s.sw.next ∧
       t.sw.takes.length = s.sw.takes.length ∧
       ∀ (i : Nat) (u : Take), s.sw.takes[i]? = some u →
         (u.st = .waiting → can u → t.sw.takes[i]? = some { u with startFrame := start, due := some .start }) ∧
         (u.st = .waiting → ¬can u → t.sw.takes[i]? =
           some { u with startFrame := start, wait := u.wait + 1, due := if 3 ≤ u.wait then some .waitExpiry else none }) ∧
         (u.st = .blending →
           let ramp := min u.blendLength (start - u.startFrame).toNat
           t.sw.takes[i]? = some { u with ramp := ramp, due := if u.blendLength ≤ ramp then some .rampEnd else none }) ∧
         (u.st = .settling → t.sw.takes[i]? = some { u with
           settleCount := u.settleCount - 1, due := if u.settleCount - 1 = 0 then some .settleEnd else none })) ∧
  (∀ (cue : Level) (s : State), s.power = true → s.NothingDue →
     let blocks (ms : Nat) : Nat := ms * s.settings.rate.frames / 32000
     let held (x : HeldTimer) (due : Bool) : Timecode := { s.tc with held := x, heldDue := due }
     let cadence : Timecode := match s.tc.held with
       | .stopped => s.tc
       | .first => held (.counting 0) true
       | .counting n => if blocks 100 ≤ n + 1 then held (.counting 0) true else held (.counting (n + 1)) false
     ∃ t : State, exec (.houseBlockBoundary cue) s = .next t ∧
       t.tr.cueLevel = s.tr.cueLevel ∧ t.tr.cueCount = (if cue = s.tr.cueLevel then 0 else s.tr.cueCount + 1) ∧
       (∀ r, ((s.tracker r).timer = none → (t.tracker r).timer = none ∧ (t.tracker r).beatDue = false) ∧
         ∀ n, (s.tracker r).timer = some n →
           (t.tracker r).timer = some (n + 1) ∧ ((t.tracker r).beatDue = true ↔ blocks s.settings.beat ≤ n + 1)) ∧
       (s.tr.st ≠ .rolling → ∀ r, t.tracker r =
         { s.tracker r with timer := (t.tracker r).timer, beatDue := (t.tracker r).beatDue }) ∧
       (s.tr.st = .rolling → s.tr.plan ≠ [] → ∀ r, t.tracker r =
         { s.tracker r with
           st := (t.tracker r).st, verify := (t.tracker r).verify, verifyDue := (t.tracker r).verifyDue
           timer := (t.tracker r).timer, beatDue := (t.tracker r).beatDue }) ∧
       (∀ r, (t.tracker r).balance = (s.tracker r).balance) ∧
       (s.tr.st ≠ .rolling → t.tc = cadence ∧ t.grid = none) ∧
       ∀ e rest x, s.tr.st = .rolling → s.tr.plan = e :: rest → s.setList[e.index]? = some x →
         let jumped (y : Timecode) : Timecode :=
           if e.marks.loop = true ∨ e.marks.jump = true then { y with jump := true } else y
         (x.timecode.isSome = true → t.tc = jumped (held .stopped false)) ∧
         (x.timecode = none → (e.marks.segmentStart = true ∨ e.marks.jump = true) → t.tc = jumped (held .first false)) ∧
         (x.timecode = none → e.marks.segmentStart = false → e.marks.jump = false → t.tc = jumped cadence) ∧
         (x.tempo = none → t.grid = none) ∧
         ∀ y, x.tempo = some y → t.grid = some ⟨framesPerBeat s.settings.rate y.tempo, y.beats, y.downbeat,
           if s.settings.rate = .r48 then 960 else 1920⟩)

/-- The end of a run (R31, R145, R163): the boundary that finds the plan empty parks at the next entry when a park is
pending, and otherwise ends at the last block; every take closes, members past their start landing on their targets
and the others staying; requests, levels in service and CUED go; the notices are a RIG_STATE for each CUED mark and
each SLIP cleared, TAKE_SETTLED with close END for each take, and TRANSPORT with reason PARK or END last (their order,
and the jump flag set, log entry 12). Of a tracker nothing else changes but a SLIP that clears with the rig's last
group (R99, R158) and the beat timer, which rises and is due at the beat interval (R100; due marks, a held message's
too, log entry 3). That a verify countdown does not fall at this boundary is log entry 4. -/
def Obligations.RunEnd : Prop :=
  ∀ (cue : Level) (p : Pos) (s : State), s.power = true → s.NothingDue → s.tr.st = .rolling → s.tr.plan = [] →
    s.tr.house = some p → (∀ x ∈ s.arb.inService, ∃ u ∈ s.sw.takes, u.num = x.2) →
    ∃ t : State, exec (.houseBlockBoundary cue) s = .next t ∧
      t.tr = { s.tr with
        st := if s.tr.parkPending = true then .parked else .ended
        house := if s.tr.parkPending = true then some ⟨p.index + 1, 0, 0⟩ else some p
        lead := none, jumpPending := false, plan := [], countdown := 0, latch := false, parkPending := false
        endPending := false, heard := false, cueCount := if cue = s.tr.cueLevel then 0 else s.tr.cueCount + 1 } ∧
      (∀ r,
        let x := s.trackerAfter t.groups r
        let interval := s.settings.beat * s.settings.rate.frames / 32000
        t.tracker r = { x with
          cued := false, timer := x.timer.map (· + 1), beatDue := (x.timer.map (· + 1)).any (interval ≤ ·) }) ∧
      t.sw = { s.sw with takes := [] } ∧ t.arb = ⟨[], []⟩ ∧
      t.grid = none ∧ t.tc = { s.tc with jump := true, held := .first, heldDue := false } ∧
      t.groups.length = s.groups.length ∧
      (∀ (i : Nat) (g : Group), s.groups[i]? = some g →
        ((∀ u ∈ s.sw.takes, ∀ m ∈ u.members, m.group ≠ g.num) → t.groups[i]? = some g) ∧
        ((s.sw.takes.flatMap fun u => u.members.map (·.group)).Nodup →
          ∀ u ∈ s.sw.takes, ∀ m ∈ u.members, m.group = g.num →
            (u.st = .waiting → m.stage ≠ .incoming → t.groups[i]? = some g) ∧
            (u.st ≠ .waiting ∨ m.stage = .incoming → t.groups[i]? = some { g with
              source := u.target, uncovered := false
              last := some ⟨u.num, u.cause, m.src, u.target,
                if u.st = .waiting then none else some (frameBlock u.startFrame)⟩ }))) ∧
      (let uncued (r : Rig) : Tracker := { s.tracker r with cued := false }
       t.desk = (s.desk.offers
        (s.rigStates s.tracker uncued ++ s.rigStates uncued t.tracker ++
          s.sw.takes.map (Take.closedAt .endOfRun t.groups) ++
          [.transport (if s.tr.parkPending = true then .park else .endOfRun) t.tr.st t.tr.house s.tr.cause])
        (s.block + 1)).kick) ∧
      t = { s with block := s.block + 1, phase := 0, tr := t.tr, sw := t.sw, arb := t.arb, grid := none, tc := t.tc
                   trackers := t.trackers, groups := t.groups, ports := t.ports, desk := t.desk }

/-- START_COUNTDOWN_EXPIRY (R29, R105, R118): at countdown 0 STARTING becomes ROLLING with its TRANSPORT notice. With
nothing to renew and no group in difficulty that is all; a standing failure, advisory by R103, stays unreported, and
one whose outcome is REQUESTED gives its FAULT notice with origin RENEWAL and its service; groups in difficulty with
RECOVER on and a READY rig are served. CUE_DEBOUNCE_EXPIRY (R41): when the count has reached the debounce time the
recognised level changes and the count returns to 0; LOW to HIGH is a press on CUE_LINE. Each expiry is a row of its
own, which not due changes nothing and leaves STARTING at countdown 0 until it is taken (log entry 3); TRANSPORT comes
before FAULT (log entry 12), and a renewed SLIP's FAULT has no NOT_FOUND detail (log entry 9). The unused counts of a
take that is opened are log entry 21. -/
def Obligations.ClockExpiries : Prop :=
  (∀ s : State, s.power = true →
     (s.tr.st = .starting → s.tr.countdown = 0 →
       (∃ t : State, exec .startCountdownExpiry s = .next t ∧
         t.tr = { s.tr with st := .rolling, heard := false } ∧ t.ports = s.ports ∧ t.setList = s.setList ∧
         t.settings = s.settings) ∧
       ((∀ r, (s.tracker r).st ≠ .failed) → (∀ r, (s.tracker r).st = .offline → s.onAir r = false) →
         s.arb.requests = [] → inDifficulty s.groups = [] →
         exec .startCountdownExpiry s = .next (kick (raise (.transport .roll .rolling s.tr.house s.tr.cause)
           { s with tr := { s.tr with st := .rolling, heard := false } })))) ∧
     (s.tr.st = .starting → s.tr.countdown = 0 → s.Quiet →
       let v : State := raise (.transport .roll .rolling s.tr.house s.tr.cause)
         { s with tr := { s.tr with st := .rolling, heard := false } }
       let sound (x : Rig) : Prop :=
         (s.tracker x).st ≠ .failed ∧ ¬((s.tracker x).st = .offline ∧ ∃ g ∈ s.groups, g.source = .rig x)
       (∀ r d, s.Stands r d → (∀ x, x ≠ r → sound x) → inDifficulty s.groups = [] →
         (decide103 r d v ≠ .requested → exec .startCountdownExpiry s = .next (kick v)) ∧
         (decide103 r d v = .requested → exec .startCountdownExpiry s = .next (kick (v.renewed r d)))) ∧
       ((∀ x, sound x) → inDifficulty s.groups ≠ [] →
         (s.settings.recover = false ∨ chooseTarget s none [] = none →
           exec .startCountdownExpiry s = .next (kick v)) ∧
         (∀ r, s.settings.recover = true → chooseTarget s none [] = some r →
           exec .startCountdownExpiry s = .next (kick (v.recovered ⟨4, r, .recover, s.block⟩))))) ∧
     (¬(s.tr.st = .starting ∧ s.tr.countdown = 0) → exec .startCountdownExpiry s = .next (kick s))) ∧
  (∀ s : State, s.power = true →
     let due : Prop := s.settings.debounce * s.settings.rate.frames / 32000 ≤ s.tr.cueCount
     (due → s.tr.cueLevel = .high →
       exec .cueDebounceExpiry s = .next (kick { s with tr := { s.tr with cueLevel := .low, cueCount := 0 } })) ∧
     (due → s.tr.cueLevel = .low →
       exec .cueDebounceExpiry s =
         .next (kick (press .cueLine { s with tr := { s.tr with cueLevel := .high, cueCount := 0 } }))) ∧
     (¬due → exec .cueDebounceExpiry s = .next (kick s)))

/-- A press (R43, R44): nothing from a source whose trigger is disabled, nor in IDLE, STARTING and ENDED; NO_SOURCE in
PARKED without a CUED rig; in PARKED with one, and in ROLLING with a park pending, it does the whole work of GO with
the press's source in the start cause: the groups' reassignment (R155) and the start from the house position, or the
park cancelled, park-pending cleared and the plan caught up (R35); RELEASE in ROLLING where it would be taken, with no
park or end pending and a vamp ahead of the lead, and nothing where it would not or where the latch is set already. At
GO each tracker keeps its record but for a SLIP that clears with the rig's last group, and the requests of a rig that
lost its last FOLLOW group are withdrawn (R99, R112, R158); the RIG_STATE of each such SLIP comes before TRANSPORT
(log entry 12). -/
def Obligations.CuePress : Prop :=
  ∀ (src : PressSource) (s : State),
    let on : Prop := match src with
      | .desk => True
      | .cueLine => s.settings.triggers.cueLine = true
      | .rig .A => s.settings.triggers.rigA = true
      | .rig .B => s.settings.triggers.rigB = true
      | .rig .C => s.settings.triggers.rigC = true
    (¬on → press src s = s) ∧
    (s.tr.st = .idle ∨ s.tr.st = .starting ∨ s.tr.st = .ended → press src s = s) ∧
    (on → s.tr.st = .parked → (∀ r, (s.tracker r).cued = false) → press src s = raise (.noSource src) s) ∧
    (on → s.tr.st = .parked → (∃ r, (s.tracker r).cued = true) →
      (press src s).tr = { s.tr with
        st := .starting
        lead := s.tr.house.map fun p =>
          ⟨⟨p.index, p.offset, 0⟩, { jump := true, segmentStart := p.offset == 0 }⟩
        jumpPending := true, countdown := s.settings.lead, latch := false, cause := some ⟨.go, src, s.block⟩
        heard := false }) ∧
    (on → s.tr.st = .parked → (∃ r, (s.tracker r).cued = true) →
      ∃ moved : Source,
        let t := press src s
        (moved = .fallback → ∀ r ∈ s.prefs, (s.tracker r).cued = false) ∧
        (∀ r, moved = .rig r → ∃ before after, s.prefs = before ++ r :: after ∧ (s.tracker r).cued = true ∧
          ∀ x ∈ before, (s.tracker x).cued = false) ∧
        t.groups.length = s.groups.length ∧
        (∀ (i : Nat) (g : Group), s.groups[i]? = some g →
          (g.gdef.follow = .pinned → t.groups[i]? = some g) ∧
          (g.gdef.follow = .follow → ∀ r, g.source = .rig r → (s.tracker r).cued = true →
            t.groups[i]? = some { g with uncovered := false }) ∧
          (g.gdef.follow = .follow → (∀ r, g.source = .rig r → (s.tracker r).cued = false) →
            t.groups[i]? = some { g with source := moved, uncovered := false })) ∧
        t.desk = s.desk.offers
          (s.rigStates s.tracker t.tracker ++ [.transport .go .starting s.tr.house (some ⟨.go, src, s.block⟩)]) s.block ∧
        (∀ r, t.tracker r = s.trackerAfter t.groups r) ∧
        t.arb = { s.arb with requests := s.requestsAfter t.groups } ∧
        t = { s with tr := t.tr, groups := t.groups, trackers := t.trackers, arb := t.arb, desk := t.desk }) ∧
    (on → s.tr.st = .rolling → s.tr.parkPending = true → s.tr.endPending = false →
      (press src s).tr.cause = some ⟨.go, src, s.block⟩ ∧ (press src s).tr.st = .rolling ∧
      ∀ (l : LeadPos) (e : SegmentEntry), s.tr.lead = some l → s.setList[l.pos.index + 1]? = some e →
        s.tr.plan.length < s.settings.lead → s.settings.lead ≤ 120 →
        CaughtUp
          { s with tr := { s.tr with
            plan := (s.tr.plan.modify (s.tr.plan.length - 1) fun x => { x with marks := { x.marks with last := false } })
              ++ [⟨l.pos.index + 1, e.code, 0, 0, { segmentStart := true }⟩]
            lead := some ⟨⟨l.pos.index + 1, 0, 0⟩, { segmentStart := true }⟩
            parkPending := false, cause := some ⟨.go, src, s.block⟩ } }
          (press src s)) ∧
    (on → (s.tr.st = .parked ∧ ∃ r, (s.tracker r).cued = true) ∨ (s.tr.st = .rolling ∧ s.tr.parkPending = true) →
      press src s = (goWork src s).1 ∧
      (s.Listening → exec .go s =
        .next ((goWork .desk s).1.answered 0x22 .accepted (goWork .desk s).1.transportSummary))) ∧
    (on → s.tr.st = .rolling → s.tr.parkPending = false →
      (s.tr.endPending = true → press src s = s) ∧
      (s.tr.lead = none → press src s = s) ∧
      ∀ l e, s.tr.lead = some l → s.setList[l.pos.index]? = some e →
        (e.vamp = none → press src s = s) ∧
        ∀ v, e.vamp = some v → s.tr.endPending = false →
          (l.pos.offset < v.vampOut → s.tr.latch = false →
            press src s = { s with tr := { s.tr with latch := true, cause := some ⟨.release, src, s.block⟩ } }) ∧
          (l.pos.offset < v.vampOut → s.tr.latch = true → press src s = s) ∧
          (v.vampOut ≤ l.pos.offset → press src s = s))

/-! ## The rig links (chapter 3) -/

/-- The layouts of section 3.2 are read back: a Block's head and samples, with a tag that passes its check, and a
Beat's code (R48, R53); a message that is neither a well-formed Block nor a well-formed Beat has no effect (R48). -/
def Obligations.RigMessages : Prop :=
  ((∀ (flags : Byte) (code offset pass n : Nat) (samples : List Byte), code ≤ 999 → offset ≤ 134217695 → pass ≤ 254 →
     1 ≤ n → n ≤ 255 → samples.length = 96 * n →
     let tag := flags :: (num2 code ++ num4 offset ++ num1 pass ++ num1 n)
     blockHead (0xB1 :: (tag ++ crcBytes (crc16 tag) ++ samples)) = some (⟨flags, code, offset, pass, n, true⟩, samples)) ∧
     ∀ code : Nat, code < 65536 →
       beatCode? (0xB2 :: (num2 code ++ crcBytes (crc16 (0xB2 :: num2 code)))) = some code) ∧
  (∀ (r : Rig) (bytes : List Byte) (s : State), s.power = true →
     (∀ k, bytes.head? = some k → k ≠ 0xB1 ∧ k ≠ 0xB2) ∨
     (bytes.head? = some 0xB1 ∧ bytes.length ≠ 12 + 96 * (bytes.getD 9 0).toNat) ∨
     (bytes.head? = some 0xB1 ∧ bytes.getD 9 0 = 0) ∨
     (bytes.head? = some 0xB2 ∧ bytes.length ≠ 5) ∨
     (bytes.head? = some 0xB2 ∧ bytes.drop 3 ≠ crcBytes (crc16 (bytes.take 3))) →
     exec (.blockMessage r bytes) s = .next (kick s) ∧ exec (.beatMessage r bytes) s = .next (kick s))

/-- A well-formed Beat (R60, R101, R102): the last Beat code is set in every link state; with the link LOCKED and the
tracker not EXCLUDED the balance rises by 1 up to +8; reaching 0 clears a held BEAT, and as the last cause it takes
the tracker from FAILED to SEARCHING. That a Beat takes the link as it stands, also when its silence limit is overdue,
and that a code above 999 is kept, are log entry 6. -/
def Obligations.BeatTaken : Prop :=
  ∀ (r : Rig) (bytes : List Byte) (code : Nat) (s : State), s.power = true → beatCode? bytes = some code →
    let p : Port := { s.port r with beatCode := some code }
    let t := s.tracker r
    ((s.port r).link ≠ .locked ∨ t.st = .excluded →
      exec (.beatMessage r bytes) s = .next (kick (s.setPort r p))) ∧
    ((s.port r).link = .locked → t.st ≠ .excluded →
      (8 ≤ t.balance → exec (.beatMessage r bytes) s = .next (kick (s.setPort r p))) ∧
      (t.balance < 8 → ¬(t.balance = -1 ∧ t.causes.beat = true) →
        exec (.beatMessage r bytes) s =
          .next (kick ((s.setPort r p).setTracker r { t with balance := t.balance + 1 }))) ∧
      (t.balance = -1 → t.causes.beat = true →
        exec (.beatMessage r bytes) s =
          .next (kick (raiseRigState r false ((s.setPort r p).setTracker r
            { t with
              balance := 0, causes := { t.causes with beat := false }
              st := if t.causes.stall = true ∨ t.causes.slip = true then t.st else .searching
              notFound := if t.causes.stall = true ∨ t.causes.slip = true then t.notFound else 0 })))))

/-- A well-formed Block that finds no silence limit passed and no slot expired is stamped, written and timed (R49,
R51, R53, R55, R56): the arrival itself when the link is DOWN or the Block early, E when it is in place; the eighth
Block in place locks the link; the record is present with the samples of the channels kept; the other ports stay. What
else it does (R42, R49, R54, R63, R66): the Block that locks the link takes an OFFLINE tracker to SEARCHING with its
match and not-found counts, beat balance and timer at 0; one RIG_STATE names each change of link state with the
tracker's state; a checked CUE flag is remembered, a rise of it is a press, and an EXCLUDED rig's makes none; then,
with the link LOCKED and the tracker neither OFFLINE nor EXCLUDED, the tracker's record becomes that of its report
(TagWork, BlockRuns), with the RIG_STATE that it calls for, its arrival in READY, or the detection with the target's
fault, the FAULT and the request of R103 and R106, served at once in a quiet state; otherwise nothing more. The
verdict is the first of R54's conditions that holds. The order of a Block's works, the CUE flag before the report, is
log entry 6. The unused counts of a take that is opened are log entry 21. -/
def Obligations.BlockTaken : Prop :=
  (∀ (r : Rig) (bytes samples : List Byte) (h : BlockHead) (s : State), s.power = true →
     blockHead bytes = some (h, samples) →
     let p := s.port r
     let now := s.now
     (∀ a, p.lastArrival = some a → frameDiff now a ≤ 128) →
     (p.link ≠ .down → ∃ e, p.expected = some e ∧ frameDiff now e ≤ 8) →
     let early : Prop := p.link ≠ .down ∧ ∀ e, p.expected = some e → frameDiff now e < -8
     ∃ (t : State) (stamp : HouseFrame) (a : Audio), exec (.blockMessage r bytes) s = .next t ∧
       (p.link = .down ∨ early → stamp = now) ∧
       (p.link ≠ .down → ¬early → p.expected = some stamp) ∧
       a.channels = min h.channels 64 ∧ a.frames.length = 32 ∧
       (∀ i c, i < 32 → c < a.channels → (a.frames.getD i []).getD c 0 =
         sample3 (samples.getD (3 * (i * h.channels + c)) 0) (samples.getD (3 * (i * h.channels + c) + 1) 0)
           (samples.getD (3 * (i * h.channels + c) + 2) 0)) ∧
       (t.port r).line = (⟨stamp, some a⟩ :: p.line).take 128 ∧
       (t.port r).expected = some (stamp + 32) ∧ (t.port r).lastArrival = some now ∧
       (t.port r).prevTag = (if h.tagOk = true then some ⟨h.code, h.offset, h.pass⟩ else p.prevTag) ∧
       (p.link = .down → (t.port r).link = .acquiring ∧ (t.port r).acquire = 1) ∧
       (p.link = .acquiring → early → (t.port r).link = .acquiring ∧ (t.port r).acquire = 1) ∧
       (p.link = .acquiring → ¬early → p.acquire < 7 →
         (t.port r).link = .acquiring ∧ (t.port r).acquire = p.acquire + 1) ∧
       (p.link = .acquiring → ¬early → 7 ≤ p.acquire → (t.port r).link = .locked ∧ (t.port r).acquire = 8) ∧
       (p.link = .locked → (t.port r).link = .locked ∧ (t.port r).acquire = p.acquire) ∧
       (t.port r).beatCode = p.beatCode ∧ (t.port r).lastRef = p.lastRef ∧ ∀ x, x ≠ r → t.port x = s.port x) ∧
  (∀ (r : Rig) (bytes samples : List Byte) (h : BlockHead) (s : State), s.power = true →
     blockHead bytes = some (h, samples) →
     let p := s.port r
     let old := s.tracker r
     (∀ a, p.lastArrival = some a → frameDiff s.now a ≤ 128) →
     (p.link ≠ .down → ∃ e, p.expected = some e ∧ frameDiff s.now e ≤ 8) →
     ∃ t : State, exec (.blockMessage r bytes) s = .next t ∧
       let link := (t.port r).link
       let told : Tracker :=
         if p.link = .acquiring ∧ link = .locked ∧ old.st = .offline then
           { old with st := .searching, matchCount := 0, notFound := 0, balance := 0, timer := some 0, beatDue := false }
         else old
       let placed : State := (s.setPort r (t.port r)).setTracker r told
       let linked : State :=
         if link = p.link then placed
         else raise (.rigState r link told.st told.cued told.tap told.causes false) placed
       let cue := h.flags.getLsbD 1
       let cued : State :=
         if h.tagOk = false then linked
         else if old.st = .excluded then linked.setRigCue r none
         else if cue = true ∧ s.tr.rigCue.get r = some false then press (.rig r) (linked.setRigCue r (some cue))
         else linked.setRigCue r (some cue)
       let taker := cued.tracker r
       (link ≠ .locked ∨ taker.st = .excluded ∨ taker.st = .offline → t = kick cued) ∧
       (link = .locked → taker.st ≠ .excluded → taker.st ≠ .offline → ∀ e, p.expected = some e →
         let stamp := if frameDiff s.now e < -8 then s.now else e
         let v := verdictOf h (if frameDiff s.now e < -8 then .early else .inPlace) p.prevTag
         let x := reportStep cued r stamp v taker
         let done : State := cued.setTracker r x.t
         let noticed : State :=
           if x.notify = true then raise (.rigState r .locked x.t.st x.t.cued x.t.tap x.t.causes x.notFound) done else done
         (x.detection = none → x.ready = false → t = kick noticed) ∧
         (x.detection = none → x.ready = true → t = kick (readyArrival r noticed)) ∧
         ∀ d, x.detection = some d →
           let target := noticed.sw.takes.any fun k => k.target == .rig r
           let judged : State := if target = true then targetFault r noticed else noticed
           let outcome := decide103 r d judged
           let level : Nat := match d with
             | .link => 0
             | .stall => 1
             | .slip => 2
             | .beat => 3
           let faulted : State :=
             raise (.fault r d false level .detection target outcome (judged.tracker r).causes) judged
           (outcome ≠ .requested → t = kick faulted) ∧
           (outcome = .requested → faulted.Quiet → t = kick (faulted.served (faulted.requestOf r d))))) ∧
  (∀ (h : BlockHead) (t : Timing) (prev : Option Tag),
     let tag : Tag := ⟨h.code, h.offset, h.pass⟩
     (t = .early → verdictOf h t prev = .early) ∧
     (t ≠ .early → h.tagOk = false → verdictOf h t prev = .badTag) ∧
     (t ≠ .early → h.tagOk = true → h.offset % 32 ≠ 0 → verdictOf h t prev = .misaligned) ∧
     (t ≠ .early → h.tagOk = true → h.offset % 32 = 0 → h.flags.getLsbD 0 = false → prev = some tag →
       verdictOf h t prev = .repeated) ∧
     (t ≠ .early → h.tagOk = true → h.offset % 32 = 0 → (h.flags.getLsbD 0 = true ∨ prev ≠ some tag) →
       verdictOf h t prev = .good tag (h.flags.getLsbD 0)))

/-- SLOT_EXPIRY (R52): from E + 9 on a missing record at E is written and E advances by 32; in ACQUIRING the acquire
count returns to 0 without a report, in LOCKED the tracker counts a bad block, and the third is a STALL detection.
SILENCE_LIMIT (R50, R67, R94, R42): 128 frames after the last arrival the link goes DOWN with its delay line kept and
the tracker OFFLINE with its tap kept, unless EXCLUDED; this is a LINK detection. Advisory, either moves nothing;
requested in a quiet state, FAULT is raised and the request served at once (R103, R111, R113 to R116): a take to the
rig chosen, and without one a take to FALLBACK for LINK, the groups marked UNCOVERED for STALL. The frames from which
an expiry is due are log entry 6, and that neither row does anything before them log entry 3; the order of a link
loss's notices is log entry 7. The unused counts of a take that is opened are log entry 21. -/
def Obligations.LinkExpiries : Prop :=
  (∀ (r : Rig) (s : State), s.power = true →
     ((s.port r).link = .down → exec (.slotExpiry r) s = .next (kick s)) ∧
     ∀ e, (s.port r).link ≠ .down → (s.port r).expected = some e →
       (frameDiff s.now e < 9 → exec (.slotExpiry r) s = .next (kick s)) ∧
       (9 ≤ frameDiff s.now e →
         let p : Port := { s.port r with
           line := (⟨e, none⟩ :: (s.port r).line).take 128, expected := some (e + 32)
           acquire := if (s.port r).link = .acquiring then 0 else (s.port r).acquire }
         ((s.port r).link = .acquiring → exec (.slotExpiry r) s = .next (kick (s.setPort r p))) ∧
         ((s.port r).link = .locked →
           ∃ t : State, exec (.slotExpiry r) s = .next t ∧ t.port r = p ∧ (∀ x, x ≠ r → t.port x = s.port x) ∧
             ((s.tracker r).st = .excluded ∨ (s.tracker r).st = .offline → t.tracker r = s.tracker r) ∧
             ((s.tracker r).st ≠ .excluded → (s.tracker r).st ≠ .offline →
               (t.tracker r).badRun = min ((s.tracker r).badRun + 1) 3 ∧ (t.tracker r).goodRun = 0)) ∧
         ((s.port r).link = .locked → (s.tracker r).st ≠ .excluded → (s.tracker r).st ≠ .offline →
           (s.tracker r).badRun = 2 → (s.tracker r).causes.stall = false → s.Quiet →
           let causes : Causes := { (s.tracker r).causes with stall := true }
           let u : Tracker := { s.tracker r with badRun := 3, goodRun := 0, causes := causes }
           let f : Tracker :=
             if (s.tracker r).st = .failed then u
             else { u with st := .failed, cued := false, matchCount := 0, verify := 0, notFound := 0, slipRun := 0 }
           let v : State :=
             { (s.setPort r p).setTracker r f with
               desk := s.desk.offers [.rigState r .locked .failed f.cued f.tap causes false,
                 .fault r .stall false 1 .detection false (decide103 r .stall s) causes] s.block }
           (decide103 r .stall s ≠ .requested → exec (.slotExpiry r) s = .next (kick v)) ∧
           (decide103 r .stall s = .requested →
             exec (.slotExpiry r) s = .next (kick (v.served (s.requestOf r .stall))))))) ∧
  (∀ (r : Rig) (s : State), s.power = true →
     ((s.port r).link = .down → exec (.silenceLimit r) s = .next (kick s)) ∧
     ∀ a, (s.port r).link ≠ .down → (s.port r).lastArrival = some a →
       (frameDiff s.now a < 128 → exec (.silenceLimit r) s = .next (kick s)) ∧
       (128 ≤ frameDiff s.now a →
         ∃ t : State, exec (.silenceLimit r) s = .next t ∧
           t.port r = { s.port r with
             link := .down, acquire := 0, expected := none, lastArrival := none, prevTag := none } ∧
           (∀ x, x ≠ r → t.port x = s.port x) ∧ t.tr = { s.tr with rigCue := s.tr.rigCue.set r none } ∧
           ((s.tracker r).st = .excluded → t.tracker r = s.tracker r) ∧
           ((s.tracker r).st ≠ .excluded →
             t.tracker r = { Tracker.reset with tap := (s.tracker r).tap, balance := (s.tracker r).balance }) ∧
           (decide103 r .link s ≠ .requested ∨ (s.tracker r).st = .excluded ∨ (s.tracker r).st = .offline →
             s.sw.takes = [] → t.groups = s.groups ∧ t.arb = s.arb ∧ (∀ x, x ≠ r → t.tracker x = s.tracker x) ∧
             t.desk = (s.desk.offers (s.linkDrop r) s.block).kick ∧
             t = { s with ports := t.ports, tr := t.tr, trackers := t.trackers, desk := t.desk })) ∧
       (128 ≤ frameDiff s.now a → decide103 r .link s = .requested → s.Quiet → (s.tracker r).st ≠ .excluded →
         (s.tracker r).st ≠ .offline →
         let u : Tracker :=
           { s.tracker r with
             st := .offline, cued := false, matchCount := 0, verify := 0, notFound := 0, badRun := 0, goodRun := 0
             slipRun := 0, causes := ⟨false, false, false⟩, timer := none, beatDue := false, verifyDue := false }
         let p : Port :=
           { s.port r with link := .down, acquire := 0, expected := none, lastArrival := none, prevTag := none }
         exec (.silenceLimit r) s = .next (kick (State.served (s.requestOf r .link)
           { (s.setPort r p).setTracker r u with
             tr := { s.tr with rigCue := s.tr.rigCue.set r none }
             desk := s.desk.offers [.rigState r .down .offline false (s.tracker r).tap ⟨false, false, false⟩ false,
               .fault r .link false 0 .detection false .requested ⟨false, false, false⟩] s.block }))))

/-- The newest-written record whose span contains a frame decides it; the read gives its sample, and 0 where the frame
is absent or the channel above the record's channel count (R57, R58). -/
def Obligations.DelayLineRead : Prop :=
  ∀ (line : List SlotRecord) (f : HouseFrame) (c : Nat),
    ((∀ rec ∈ line, 32 ≤ (f - rec.stamp).toNat) → readLine line f c = 0 ∧ framePresent line f = false) ∧
    ∀ (newer older : List SlotRecord) (rec : SlotRecord), line = newer ++ rec :: older →
      (∀ x ∈ newer, 32 ≤ (f - x.stamp).toNat) → (f - rec.stamp).toNat < 32 →
      (rec.audio = none → readLine line f c = 0 ∧ framePresent line f = false) ∧
      ∀ a, rec.audio = some a →
        framePresent line f = true ∧ (a.channels < c → readLine line f c = 0) ∧
        ∀ frame x, c ≤ a.channels → a.frames[(f - rec.stamp).toNat]? = some frame → frame[c - 1]? = some x →
          readLine line f c = x

/-! ## The trackers (chapters 4 and 5) -/

/-- The tag check (R69): none is BEYOND, another code or pass ASTRAY, and otherwise the error in frames decides. A
found search always yields a tap within 0..4,064 at which the same tag, checked at once, gives MATCH (R71), in a
running transport whose plan codes are the set list's and whose first entry has been heard when ROLLING. -/
def Obligations.LineupRules : Prop :=
  (∀ (s : State) (tap : Nat) (stamp : HouseFrame) (tag : Tag),
     let o := stamp + BitVec.ofNat 37 tap
     let b := BitVec.ofNat 32 (o.toNat / 32)
     (planAt s b = none → tagCheck s tap stamp tag = .beyond) ∧
     ∀ e, planAt s b = some e →
       (tag.code ≠ e.code ∨ tag.pass ≠ e.pass → tagCheck s tap stamp tag = .astray) ∧
       (tag.code = e.code → tag.pass = e.pass →
         (tag.offset = e.offset * 32 + o.toNat % 32 → tagCheck s tap stamp tag = .match) ∧
         (tag.offset ≠ e.offset * 32 + o.toNat % 32 →
           tagCheck s tap stamp tag = .offset ((tag.offset : Int) - (e.offset * 32 + o.toNat % 32 : Nat))))) ∧
  (∀ (s : State) (stamp : HouseFrame) (tag : Tag) (tap : Nat), s.PlanSafe →
     (s.tr.st = .starting ∨ (s.tr.st = .rolling ∧ s.tr.heard = true ∧ s.tr.countdown = 0)) →
     s.tr.plan.length + s.tr.countdown ≤ 256 → lineupSearch s stamp tag = some tap →
     tap ≤ 4064 ∧ tagCheck s tap stamp tag = .match)

/-- A GOOD report while running. Unparked, at a tap that may change (R73, R74, R76, R78): a found search sets the tap
and SETTLING; MATCH counts in SETTLING up to READY at 16, and takes VERIFYING to READY; a small OFFSET corrects the
tap; anything else is searched anew. Unparked, at a frozen tap (R75, R77, R95, R96): the tap stays; a MATCH counts in
SETTLING, takes VERIFYING to READY and SEARCHING to SETTLING; a MATCH, or an OFFSET within the slip window, returns
the slip run to 0; any other result counts, and the fourth is a SLIP detection that takes the tracker to FAILED; a
result that is no MATCH returns SETTLING's match count to 0. A search or a frozen check that finds nothing counts a
not-found, and at the verify span the count returns to 0 with a NOT_FOUND report (R72). RIG_STATE is called for
exactly by a change of state, a search anew from SETTLING and NOT_FOUND (R74, R89), and the arrival in READY exactly
by the sixteenth MATCH and a MATCH in VERIFYING (R78, R81). That arrival makes a RECOVER request exactly under the
conditions of R118, which is served at once or waits. Parked (R68): nothing in STARTING and in SEARCHING; while
ROLLING an ASTRAY result without a search, so SEARCHING at a tap that may change, and a slip counted at a frozen tap.
What a parked report in SEARCHING leaves, the slip run there, and one RIG_STATE a report are log entry 8, and that
STARTING lasts until its row is taken log entry 3. The unused counts of a take that is opened are log entry 21. -/
def Obligations.TagWork : Prop :=
  (∀ (r : Rig) (stamp : HouseFrame) (tag : Tag) (s : State), (s.tr.st = .starting ∨ s.tr.st = .rolling) →
     s.tapFree r = true → (s.tracker r).causes.stall = false →
     let t := s.tracker r
     let x := reportStep s r stamp (.good tag false) t
     let u := x.t
     let check := tagCheck s t.tap stamp tag
     let small (e : Int) : Prop := e.natAbs ≤ 64 ∧ 0 ≤ (t.tap : Int) + e ∧ (t.tap : Int) + e ≤ 4064
     let lost : Prop := check = .astray ∨ check = .beyond ∨ ∃ e, check = .offset e ∧ ¬small e
     (t.st = .searching ∨ ((t.st = .settling ∨ t.st = .ready ∨ t.st = .verifying) ∧ lost) →
       (∀ d, lineupSearch s stamp tag = some d → u.st = .settling ∧ u.tap = d ∧ u.matchCount = 0 ∧ u.notFound = 0) ∧
       (lineupSearch s stamp tag = none → u.st = .searching ∧ u.tap = t.tap)) ∧
     (t.st = .settling → check = .match → u.tap = t.tap ∧
       (t.matchCount < 15 → u.st = .settling ∧ u.matchCount = t.matchCount + 1) ∧
       (15 ≤ t.matchCount → u.st = .ready ∧ u.matchCount = 16)) ∧
     (t.st = .verifying → check = .match → u.st = .ready ∧ u.verify = 0 ∧ u.tap = t.tap) ∧
     (t.st = .ready → check = .match → u.st = .ready ∧ u.tap = t.tap) ∧
     (∀ e, t.st = .settling ∨ t.st = .ready ∨ t.st = .verifying → check = .offset e → small e → e ≠ 0 →
       (u.tap : Int) = (t.tap : Int) + e ∧ u.st = t.st ∧ (t.st = .settling → u.matchCount = 0)) ∧
     (t.st = .searching ∨ ((t.st = .settling ∨ t.st = .ready ∨ t.st = .verifying) ∧ lost) →
       lineupSearch s stamp tag = none →
       let count := (if t.st = .searching then t.notFound else 0) + 1
       (count < s.settings.verify → u.notFound = count ∧ x.notFound = false) ∧
       (s.settings.verify ≤ count → u.notFound = 0 ∧ x.notFound = true)) ∧
     (x.ready = true ↔ check = .match ∧ ((t.st = .settling ∧ 15 ≤ t.matchCount) ∨ t.st = .verifying)) ∧
     (x.notify = true ↔ u.st ≠ t.st ∨ (t.st = .settling ∧ lost) ∨ x.notFound = true) ∧ x.detection = none) ∧
  (∀ (r : Rig) (stamp : HouseFrame) (tag : Tag) (s : State), s.tr.st = .rolling → s.onAir r = true →
     (s.tracker r).causes.stall = false →
     (s.tracker r).st = .searching ∨ (s.tracker r).st = .settling ∨ (s.tracker r).st = .ready ∨
       (s.tracker r).st = .verifying →
     let t := s.tracker r
     let x := reportStep s r stamp (.good tag false) t
     let check := tagCheck s t.tap stamp tag
     let passes : Prop := check = .match ∨ ∃ e, check = .offset e ∧ e.natAbs ≤ s.settings.slipWindow
     x.t.tap = t.tap ∧ (passes → t.slipRun < 4 → x.t.slipRun = 0 ∧ x.detection = none) ∧
       (¬passes → t.slipRun < 3 → x.t.slipRun = t.slipRun + 1 ∧ x.detection = none ∧ x.t.st = t.st) ∧
       (¬passes → t.slipRun = 3 → x.t.slipRun = 0 ∧ x.detection = some .slip ∧ x.t.st = .failed ∧
         x.t.causes.slip = true ∧ x.t.cued = false) ∧
       (check = .match → t.st = .searching → x.t.st = .settling ∧ x.t.matchCount = 0) ∧
       (check = .match → t.st = .settling →
         (t.matchCount < 15 → x.t.st = .settling ∧ x.t.matchCount = t.matchCount + 1) ∧
         (15 ≤ t.matchCount → x.t.st = .ready ∧ x.t.matchCount = 16)) ∧
       (check = .match → t.st = .verifying → x.t.st = .ready ∧ x.t.verify = 0) ∧
       (check = .match → t.st = .ready → x.t.st = .ready) ∧
       (check ≠ .match → t.st ≠ .searching → t.slipRun < 3 → x.t.st = t.st ∧
         x.t.matchCount = (if t.st = .settling then 0 else t.matchCount) ∧ x.t.verify = t.verify) ∧
       (t.st = .searching → check ≠ .match → x.detection = none →
         (t.notFound + 1 < s.settings.verify → x.t.notFound = t.notFound + 1) ∧
         (s.settings.verify ≤ t.notFound + 1 → x.t.notFound = 0)) ∧
       (x.notFound = true ↔ t.st = .searching ∧ check ≠ .match ∧ s.settings.verify ≤ t.notFound + 1) ∧
       (x.ready = true ↔ check = .match ∧ ((t.st = .settling ∧ 15 ≤ t.matchCount) ∨ t.st = .verifying)) ∧
       (x.notify = true ↔ x.t.st ≠ t.st ∨ x.notFound = true)) ∧
  (∀ (r : Rig) (stamp : HouseFrame) (tag : Tag) (s : State), (s.tracker r).causes.stall = false →
     (s.tracker r).st = .searching ∨ (s.tracker r).st = .settling ∨ (s.tracker r).st = .ready ∨
       (s.tracker r).st = .verifying →
     let t := s.tracker r
     let x := reportStep s r stamp (.good tag true) t
     let counted : Tracker := { t with goodRun := min (t.goodRun + 1) 32, badRun := 0 }
     (s.tr.st = .starting ∨ (s.tr.st = .rolling ∧ t.st = .searching) →
       x.t = counted ∧ x.notify = false ∧ x.detection = none) ∧
     x.ready = false ∧ x.notFound = false ∧
     (s.tr.st = .rolling → t.st ≠ .searching → s.onAir r = false →
       x.t.st = .searching ∧ x.t.tap = t.tap ∧ x.t.notFound = 0 ∧ x.notify = true ∧ x.detection = none) ∧
     (s.tr.st = .rolling → t.st ≠ .searching → s.onAir r = true →
       x.t.tap = t.tap ∧
       (t.slipRun < 3 → x.t = { counted with
         slipRun := t.slipRun + 1, matchCount := if t.st = .settling then 0 else t.matchCount } ∧ x.notify = false ∧
         x.detection = none) ∧
       (t.slipRun = 3 → x.notify = true ∧ x.t.st = .failed ∧ x.t.causes.slip = true ∧ x.t.slipRun = 0 ∧ x.detection = some .slip))) ∧
  (∀ (r : Rig) (s : State),
     let q : Request := ⟨4, r, .recover, s.block⟩
     let opens : Prop :=
       s.settings.recover = true ∧ s.tr.st = .rolling ∧ (∀ p ∈ s.arb.requests, p.level ≠ 4) ∧
       (∀ x ∈ s.arb.inService, x.1 ≠ 4) ∧
       ∃ g ∈ s.groups, g.gdef.follow = .follow ∧ (g.source = .fallback ∨ g.uncovered = true)
     (¬opens → readyArrival r s = s) ∧
     (opens → s.Quiet → readyArrival r s = s.recovered q) ∧
     (opens → s.arb.requests = [] → (∃ x ∈ s.arb.inService, x.1 ≤ 4) →
       readyArrival r s = { s with arb := { s.arb with requests := [q] } }))

/-- CUED while PARKED (R68, R79): a GOOD report sets the mark exactly when it is parked and stands at the house
position. The runs (R91, R92, R93): a bad block counts up to 3 and breaks the good run; the third is a STALL unless
STALL is held. The 32nd good block in a row removes a held STALL in every transport state, with a RIG_STATE: with SLIP
or BEAT held the tracker stays FAILED with them (R107) and no tag work is done; as the last cause it leaves FAILED for
SEARCHING with its not-found count 0, and the same report then does its work in that state, so in STARTING and ROLLING
it is searched, or checked at a frozen tap (R91, R93). -/
def Obligations.BlockRuns : Prop :=
  (∀ (r : Rig) (stamp : HouseFrame) (tag : Tag) (parked : Bool) (p : Pos) (e : SegmentEntry) (s : State),
     s.tr.st = .parked → s.tr.house = some p → s.setList[p.index]? = some e → (s.tracker r).causes.stall = false →
     (s.tracker r).st = .searching ∨ (s.tracker r).st = .settling ∨ (s.tracker r).st = .ready ∨
       (s.tracker r).st = .verifying →
     let t := s.tracker r
     let x := reportStep s r stamp (.good tag parked) t
     (x.t.cued = true ↔ parked = true ∧ tag.code = e.code ∧ tag.offset = p.offset * 32 ∧ tag.pass = 0) ∧
       (x.notify = true ↔ x.t.cued ≠ t.cued) ∧
       x.t = { t with cued := x.t.cued, goodRun := min (t.goodRun + 1) 32, badRun := 0 }) ∧
  (∀ (s : State) (r : Rig) (stamp : HouseFrame) (v : Verdict) (t : Tracker), t.badRun ≤ 3 → t.goodRun ≤ 32 →
     let x := reportStep s r stamp v t
     ((∀ tag parked, v ≠ .good tag parked) →
       x.t.badRun = min (t.badRun + 1) 3 ∧ x.t.goodRun = 0 ∧ x.t.tap = t.tap ∧
         (t.badRun = 2 → t.causes.stall = false →
           x.detection = some .stall ∧ x.t.st = .failed ∧ x.t.causes.stall = true ∧ (t.st ≠ .failed → x.t.cued = false)) ∧
         ((t.badRun ≠ 2 ∨ t.causes.stall = true) → x.detection = none ∧ x.t.st = t.st ∧ x.t.causes = t.causes)) ∧
     (∀ tag parked, v = .good tag parked →
       x.t.badRun = 0 ∧ x.t.goodRun = min (t.goodRun + 1) 32 ∧
         (t.goodRun = 31 → t.causes.stall = true →
           let kept : Tracker :=
             { t with goodRun := 32, badRun := 0, causes := { t.causes with stall := false } }
           let freed : Tracker := { kept with st := .searching, notFound := 0 }
           let y := reportStep s r stamp v freed
           x.notify = true ∧
           (t.st = .failed → t.causes.slip = true ∨ t.causes.beat = true →
             x.t = kept ∧ x.notFound = false ∧ x.ready = false ∧ x.detection = none) ∧
           (t.causes.slip = false → t.causes.beat = false →
             x = { y with notify := true } ∧
             (s.tr.st = .idle ∨ s.tr.st = .ended → x.t = freed) ∧
             (s.tr.st = .starting ∨ s.tr.st = .rolling → parked = false → s.tapFree r = true →
               (∀ d, lineupSearch s stamp tag = some d → x.t.st = .settling ∧ x.t.tap = d) ∧
               (lineupSearch s stamp tag = none → x.t.st = .searching ∧ x.t.tap = t.tap)) ∧
             (s.tr.st = .rolling → parked = false → s.onAir r = true → tagCheck s t.tap stamp tag = .match →
               x.t.st = .settling ∧ x.t.tap = t.tap))) ∧
         (t.goodRun ≠ 31 → t.st = .failed → x.t.st = .failed ∧ x.t.causes = t.causes)))

/-- VERIFY_COUNTDOWN_EXPIRY (R82, R97, R104), due: VERIFYING off air goes to SEARCHING; on air VERIFYING, and FAILED
where a beat expiry of the same boundary came first, has SLIP held with RIG_STATE and a FAULT with detail NOT_FOUND;
in other states nothing. BEAT_INTERVAL_EXPIRY (R100, R102), due: the timer returns to 0 and the balance falls by 1
unless it is −9; the fall to −9 is a BEAT detection. An advisory detection does nothing more; a requested one in a
quiet state is served at once (R103, R111, R113 to R116). Not due, neither changes anything; the due marks, and a
FAILED tracker off air, are log entry 3; a BEAT detection while BEAT is held, with a FAULT and no RIG_STATE, is log
entry 9. The unused counts of a take that is opened are log entry 21. -/
def Obligations.TrackerExpiries : Prop :=
  (∀ (r : Rig) (s : State), s.power = true →
     let t := s.tracker r
     let u : Tracker := { t with verifyDue := false }
     let due : Prop := t.verifyDue = true
     (¬due → exec (.verifyCountdownExpiry r) s = .next (kick s)) ∧
     (due → t.st = .verifying → s.onAir r = false → exec (.verifyCountdownExpiry r) s = .next (kick (raiseRigState r false
       (s.setTracker r { u with st := .searching, notFound := 0 })))) ∧
     (due → (t.st = .failed ∧ s.onAir r = false) ∨ (t.st ≠ .verifying ∧ t.st ≠ .failed) →
       exec (.verifyCountdownExpiry r) s = .next (kick (s.setTracker r u))) ∧
     (due → t.st = .verifying ∨ t.st = .failed → s.onAir r = true → s.sw.takes = [] →
       let causes : Causes := { t.causes with slip := true }
       let f : Tracker :=
         if t.st = .failed then { u with causes := causes }
         else { u with
           st := .failed, cued := false, matchCount := 0, verify := 0, notFound := 0, slipRun := 0, causes := causes }
       let changed : List NoticeBody :=
         if t.st = .failed ∧ t.causes.slip = true then []
         else [.rigState r (s.port r).link .failed f.cued t.tap causes true]
       let v : State :=
         { s.setTracker r f with
           desk := s.desk.offers (changed ++ [.fault r .slip true 2 .detection false (decide103 r .slip s) causes])
             s.block }
       (decide103 r .slip s ≠ .requested → exec (.verifyCountdownExpiry r) s = .next (kick v)) ∧
       (decide103 r .slip s = .requested → s.Quiet →
         exec (.verifyCountdownExpiry r) s = .next (kick (v.served (s.requestOf r .slip)))))) ∧
  (∀ (r : Rig) (s : State), s.power = true →
     let t := s.tracker r
     let due : Prop := t.beatDue = true
     (due → t.balance ≤ -9 →
       exec (.beatIntervalExpiry r) s = .next (kick (s.setTracker r { t with timer := some 0, beatDue := false }))) ∧
     (due → -8 < t.balance → exec (.beatIntervalExpiry r) s =
       .next (kick (s.setTracker r { t with timer := some 0, beatDue := false, balance := t.balance - 1 }))) ∧
     (due → t.balance = -8 → s.sw.takes = [] → decide103 r .beat s ≠ .requested →
       ∃ u : State, exec (.beatIntervalExpiry r) s = .next u ∧ (u.tracker r).balance = -9 ∧
         (u.tracker r).st = .failed ∧ (u.tracker r).causes = { t.causes with beat := true } ∧
         (u.tracker r).timer = some 0 ∧ (u.tracker r).tap = t.tap ∧
         u.desk = (s.desk.offers
           (s.rigStates (fun x => if x = r then { t with timer := some 0, beatDue := false, balance := -9 } else s.tracker x)
               u.tracker ++
             [.fault r .beat false 3 .detection false (decide103 r .beat s) { t.causes with beat := true }])
           s.block).kick ∧
         u = { s with trackers := u.trackers, desk := u.desk } ∧ ∀ x, x ≠ r → u.tracker x = s.tracker x) ∧
     (due → t.balance = -8 → decide103 r .beat s = .requested → s.Quiet →
       let causes : Causes := { t.causes with beat := true }
       let u : Tracker := { t with timer := some 0, beatDue := false, balance := -9, causes := causes }
       let f : Tracker :=
         if t.st = .failed then u
         else { u with st := .failed, cued := false, matchCount := 0, verify := 0, notFound := 0, slipRun := 0 }
       let changed : List NoticeBody :=
         if t.st = .failed ∧ t.causes.beat = true then []
         else [.rigState r (s.port r).link .failed f.cued t.tap causes false]
       exec (.beatIntervalExpiry r) s = .next (kick (State.served (s.requestOf r .beat)
         { s.setTracker r f with
           desk := s.desk.offers (changed ++ [.fault r .beat false 3 .detection false .requested causes]) s.block }))) ∧
     (¬due → exec (.beatIntervalExpiry r) s = .next (kick s)))

/-! ## The arbiter and the source commands (chapters 4, 6 and 8) -/

/-- The request decision (R103); the request that an examination picks, by level, then by the count of its rig's
FOLLOW groups, then by port order (R111); the target of a service, the first rig of the preference list that is READY,
not faulted and not dropped (R113). An examination of one request (R111, R112): stale ones are withdrawn, none is
served outside ROLLING or with a level in service at or above its own, and otherwise it is served (R113 to R116) or,
for RECOVER, groups in difficulty are recovered (R119). An opening that takes members from one open take (R130 to
R132, R147): members past their start complete on the old target and the others keep their sources; an emptied take
closes as superseded with its levels passed on, a BLENDING one with no ramp left settles, and one that keeps ramps
blends on to its boundary, also when its last ramp frame is out; the new take waits, and the notices are TAKE_SNAPPED,
the RIG_STATE of each SLIP cleared, TAKE_BEGUN and TAKE_SETTLED. A ramp end due at this boundary counts as taken
first, and TAKE_SNAPPED's count stays below the blend length; these, the order of the notices and the levels named are
log entry 11. The unused counts of a take that is opened or settled are log entry 21. -/
def Obligations.ArbitrationRules : Prop :=
  (∀ (r : Rig) (d : Detection) (s : State),
     let level : Nat := match d with
       | .link => 0
       | .stall => 1
       | .slip => 2
       | .beat => 3
     let follow : Prop := ∃ g ∈ s.groups, g.gdef.follow = .follow ∧ g.source = .rig r
     (s.tr.st ≠ .rolling → decide103 r d s = .advisoryState) ∧
     (s.tr.st = .rolling → ¬follow → decide103 r d s = .advisoryGroup) ∧
     (s.tr.st = .rolling → follow → s.settings.threshold ≤ level → decide103 r d s = .advisoryLevel) ∧
     (s.tr.st = .rolling → follow → level < s.settings.threshold → decide103 r d s = .requested)) ∧
  (∀ s : State,
     let ready (q : Request) : Prop := q ∈ s.arb.requests ∧ ∀ x ∈ s.arb.inService, q.level < x.1
     let follow (r : Rig) : Nat :=
       (s.groups.filter fun g => g.gdef.follow == .follow && g.source == .rig r).length
     let port (r : Rig) : Nat := match r with
       | .A => 0
       | .B => 1
       | .C => 2
     (chooseRequest s = none ↔ ∀ q, ¬ready q) ∧
     ∀ q, chooseRequest s = some q → ready q ∧ ∀ p, ready p →
       q.level < p.level ∨ (q.level = p.level ∧ (follow p.rig < follow q.rig ∨
         (follow p.rig = follow q.rig ∧ port q.rig ≤ port p.rig)))) ∧
  (∀ (s : State) (faulted : Option Rig) (dropped : List Rig),
     let fit (r : Rig) : Prop := (s.tracker r).st = .ready ∧ faulted ≠ some r ∧ r ∉ dropped
     (chooseTarget s faulted dropped = none ↔ ∀ r ∈ s.prefs, ¬fit r) ∧
     ∀ r, chooseTarget s faulted dropped = some r →
       ∃ before after, s.prefs = before ++ r :: after ∧ fit r ∧ ∀ x ∈ before, ¬fit x) ∧
  (∀ (q : Request) (s : State), s.arb.requests = [q] → q.cause ≠ .manual →
     let follows : Prop := ∃ g ∈ s.groups, g.gdef.follow = .follow ∧ g.source = .rig q.rig
     let stale : Prop :=
       (q.cause = .link ∧ (¬follows ∨ (s.tracker q.rig).st ≠ .offline)) ∨
       (q.cause = .recover ∧ ∀ g ∈ s.groups, g.gdef.follow = .follow → g.source ≠ .fallback ∧ g.uncovered = false) ∨
       (q.cause ≠ .link ∧ q.cause ≠ .recover ∧ (¬follows ∨ (s.tracker q.rig).st ≠ .failed))
     (stale → examine s = { s with arb := { s.arb with requests := [] } }) ∧
     (¬stale → s.tr.st ≠ .rolling → examine s = s) ∧
     (¬stale → (∃ x ∈ s.arb.inService, x.1 ≤ q.level) → examine s = s) ∧
     (¬stale → s.tr.st = .rolling → State.Quiet { s with arb := { s.arb with requests := [] } } →
       (q.cause ≠ .recover → examine s = s.served q) ∧ (q.cause = .recover → examine s = s.recovered q))) ∧
  (∀ (o : OpenOrder) (old : Take) (s : State), s.sw.takes = [old] → s.sw.next < 256 →
     (o.members.map (·.1)).Nodup → (old.members.map (·.group)).Nodup → (s.groups.map (·.num)).Nodup → o.level ≤ 4 →
     (∀ l ∈ old.levels, l ≤ 4) → (∃ m ∈ old.members, m.group ∈ o.members.map (·.1)) →
     let t := openTake o s
     let n : Nat := if old.num = s.sw.next then (s.sw.next + 1) % 256 else s.sw.next
     let taken := old.members.filter fun m => (o.members.map (·.1)).contains m.group
     let kept := old.members.filter fun m => !(o.members.map (·.1)).contains m.group
     let started : Option HouseBlock := if old.st = .waiting then none else some (frameBlock old.startFrame)
     let left : Take :=
       if old.st = .blending ∧ (kept.any fun m => m.stage == .ramp) = false then
         { old with st := .settling, members := kept, engine := none, settleCount := old.settlePeriod, due := none }
       else { old with members := kept }
     let ramps := (taken.filter fun m => m.stage == .ramp).map (·.group)
     let ended : Take :=
       { old with
         st := .settling, engine := none, settleCount := old.settlePeriod, due := none
         members := old.members.map fun m => if m.stage = .ramp then { m with stage := .incoming } else m }
     (old.st = .blending → old.due = some .rampEnd →
       t = openTake o { s with sw := { s.sw with takes := [ended] } }) ∧
     (¬(old.st = .blending ∧ old.due = some .rampEnd) →
       ∃ new ∈ t.sw.takes, t.sw.next = (n + 1) % 256 ∧
         new.num = n ∧ new.cause = o.cause ∧ new.rig = o.rig ∧ new.target = o.target ∧ new.st = .waiting ∧
         new.wait = 0 ∧ new.engine = none ∧ new.dropped = [] ∧ new.blendLength = s.settings.blend * 32 ∧
         new.settlePeriod = s.settings.settle ∧ new.startFrame = firstFrame (s.block + 1) ∧
         new.members.length = o.members.length ∧
         (∀ (i : Nat) (x : Nat × Source), o.members[i]? = some x → ∃ m, new.members[i]? = some m ∧ m.group = x.1 ∧
           m.stage = (if m.src = o.target then .incoming else .outgoing) ∧ (o.target = .fallback → m.mode = .cut) ∧
           (∀ k ∈ taken, k.group = x.1 → k.stage ≠ .outgoing → m.src = old.target) ∧
           ((∀ k ∈ taken, k.group = x.1 → k.stage = .outgoing) → m.src = x.2)) ∧
         t.groups.length = s.groups.length ∧
         (∀ (i : Nat) (g : Group), s.groups[i]? = some g →
           ((∀ k ∈ taken, k.group = g.num → k.stage = .outgoing) → t.groups[i]? = some g) ∧
           ∀ k ∈ taken, k.group = g.num → k.stage ≠ .outgoing → t.groups[i]? = some { g with
             source := old.target, uncovered := false, last := some ⟨old.num, old.cause, k.src, old.target, started⟩ }) ∧
         (kept = [] → t.sw.takes = [new] ∧ (∀ l, l ∈ new.levels ↔ l = o.level ∨ l ∈ old.levels) ∧
           t.arb.inService = s.arb.inService.map fun x => if x.2 = old.num then (x.1, n) else x) ∧
         (kept ≠ [] → left ∈ t.sw.takes ∧ t.sw.takes.length = 2 ∧ new.levels = [o.level] ∧
           t.arb.inService = s.arb.inService) ∧
         (∀ r, t.tracker r = s.trackerAfter t.groups r) ∧ t.arb.requests = s.requestsAfter t.groups ∧
         t = { s with sw := t.sw, arb := t.arb, groups := t.groups, trackers := t.trackers, desk := t.desk } ∧
         t.desk = s.desk.offers
           ((if ramps = [] then []
             else [.takeSnapped old.num .supersede ramps (min old.ramp (old.blendLength - 1)) n (if kept = [] then .closed else left.st)]) ++
             s.rigStates s.tracker t.tracker ++ [.takeBegun n o.cause [o.level] o.target new.members [old.num] false []] ++
             (if kept = [] then
               [.takeSettled old.num .superseded old.cause old.target old.levels (some n) started []] else []))
           s.block))

/-- TAKE's refusals in order (R121, R122): BAD_VALUE for FALLBACK, a list of none or more than eight, or a group that
is not defined; DUPLICATE; WRONG_STATE in IDLE; ACCEPTED as a no-op; in ROLLING BUSY, WRONG_STATE, NOT_READY;
elsewhere NOT_READY for an EXCLUDED rig or a link that is not LOCKED. -/
def Obligations.TakeRefused : Prop :=
  ∀ (rig : Source) (named : List Nat) (s : State), s.Listening →
    let no (r : Result) : Prop := exec (.take rig named) s = .next (s.answered 0x30 r s.sourceSummary)
    let listed : Prop := 1 ≤ named.length ∧ named.length ≤ 8 ∧ ∀ n ∈ named, ∃ g ∈ s.groups, g.num = n
    (rig = .fallback ∨ ¬listed → no .badValue) ∧
    ∀ r, rig = .rig r → listed →
      let there : Prop := ∀ g ∈ s.groups, g.num ∈ named → g.source = .rig r
      let away : Prop := ∃ n ∈ named, ∀ g ∈ s.groups, g.num = n → g.source ≠ .rig r
      (¬named.Nodup → no .duplicate) ∧
      (named.Nodup →
        (s.tr.st = .idle → no .wrongState) ∧
        (s.tr.st ≠ .idle → there → no .accepted) ∧
        (s.tr.st = .rolling → away →
          (s.arb.inService ≠ [] → no .busy) ∧
          (s.arb.inService = [] → (s.tracker r).st = .excluded → no .wrongState) ∧
          (s.arb.inService = [] → (s.tracker r).st ≠ .excluded → (s.tracker r).st ≠ .ready → no .notReady)) ∧
        (s.tr.st = .parked ∨ s.tr.st = .starting ∨ s.tr.st = .ended → away →
          ((s.tracker r).st = .excluded ∨ (s.port r).link ≠ .locked) → no .notReady))

/-- TAKE in ROLLING with an empty table (R121, R129, R130, R131, R146, R147): one take at level 4 is opened WAITING
for the named groups that are not on the rig, with the settings in force, and announced; no source changes. Outside
ROLLING (R122, R156, R158): each named group that is not on the rig is put on it at once, its mark cleared; no take is
opened. The take's ramp count and settle countdown of 0 in WAITING are the model's choice (log entry 21). Outside
ROLLING each tracker keeps its record but for a SLIP that clears with the rig's last group, and the requests of a rig
that lost its last FOLLOW group are withdrawn (R99, R112), the RIG_STATE of each such SLIP being the only notice;
STARTING at countdown 0 counts as STARTING (log entry 3). -/
def Obligations.TakeTaken : Prop :=
  (∀ (r : Rig) (named : List Nat) (s : State), s.Listening → s.tr.st = .rolling → s.sw.takes = [] →
     s.arb.inService = [] → (s.tracker r).st = .ready → named.Nodup → 1 ≤ named.length → named.length ≤ 8 →
     (∀ n ∈ named, ∃ g ∈ s.groups, g.num = n) → (s.groups.map (·.num)).Nodup → s.sw.next < 256 →
     (∃ g ∈ s.groups, g.num ∈ named ∧ g.source ≠ .rig r) →
     let members : List Member :=
       (s.groups.filter fun g => named.contains g.num && !(g.source == .rig r)).map fun g =>
         ⟨g.num, g.source, g.gdef.kind, .outgoing⟩
     let take : Take :=
       { num := s.sw.next, levels := [4], cause := .manual, rig := r, target := .rig r, members := members, dropped := []
         blendLength := s.settings.blend * 32, settlePeriod := s.settings.settle, st := .waiting
         startFrame := firstFrame (s.block + 1), wait := 0, engine := none, ramp := 0, settleCount := 0, due := none }
     exec (.take (.rig r) named) s = .next
       (({ s with
           sw := ⟨[take], (s.sw.next + 1) % 256⟩, arb := { s.arb with inService := [(4, s.sw.next)] }
           desk := s.desk.offer (.takeBegun s.sw.next .manual [4] (.rig r) members [] false []) s.block } : State).answered
         0x30 .accepted
         (.source (s.groups.map fun g => (g.num, g.source, g.uncovered)) [(4, s.sw.next)]))) ∧
  (∀ (r : Rig) (named : List Nat) (s : State), s.Listening →
     s.tr.st = .parked ∨ s.tr.st = .starting ∨ s.tr.st = .ended → (s.tracker r).st ≠ .excluded →
     (s.port r).link = .locked → named.Nodup → 1 ≤ named.length → named.length ≤ 8 →
     (∀ n ∈ named, ∃ g ∈ s.groups, g.num = n) → (s.groups.map (·.num)).Nodup →
     (∃ g ∈ s.groups, g.num ∈ named ∧ g.source ≠ .rig r) →
     ∃ t : State, exec (.take (.rig r) named) s = .next t ∧
       t.groups = s.groups.map (fun g =>
         if g.num ∈ named ∧ g.source ≠ .rig r then { g with source := .rig r, uncovered := false } else g) ∧
       t.desk = (s.desk.offers (s.rigStates s.tracker t.tracker) s.block).answered ⟨0x30, .accepted, t.sourceSummary⟩ ∧
       (∀ r, t.tracker r = s.trackerAfter t.groups r) ∧
       t.arb = { s.arb with requests := s.requestsAfter t.groups } ∧
       t = { s with groups := t.groups, trackers := t.trackers, arb := t.arb, desk := t.desk })

/-- EXCLUDE (R86): BAD_VALUE for FALLBACK; ON_AIR while the rig carries a group or is an open take's target; nothing
on an EXCLUDED rig; otherwise the tracker goes to EXCLUDED, keeping its tap. ADMIT (R87): nothing on a tracker that is
not EXCLUDED; otherwise OFFLINE, or SEARCHING when the link is LOCKED. One RIG_STATE notice names the state. -/
def Obligations.ExcludeAndAdmit : Prop :=
  (∀ s : State, s.Listening →
     exec (.exclude .fallback) s = .next (s.answered 0x31 .badValue s.sourceSummary) ∧
     ∀ r,
       let busy : Prop := (∃ g ∈ s.groups, g.source = .rig r) ∨ ∃ t ∈ s.sw.takes, t.target = .rig r
       (busy → exec (.exclude (.rig r)) s = .next (s.answered 0x31 .onAir s.sourceSummary)) ∧
       (¬busy → (s.tracker r).st = .excluded →
         exec (.exclude (.rig r)) s = .next (s.answered 0x31 .accepted s.sourceSummary)) ∧
       (¬busy → (s.tracker r).st ≠ .excluded →
         ∃ t : State, exec (.exclude (.rig r)) s = .next t ∧
           t.tracker r = { s.tracker r with
             st := .excluded, cued := false, matchCount := 0, verify := 0, notFound := 0, badRun := 0, goodRun := 0
             slipRun := 0, causes := ⟨false, false, false⟩, timer := none, beatDue := false
             verifyDue := false } ∧
           (∀ x, x ≠ r → t.tracker x = s.tracker x) ∧ t.tr = { s.tr with rigCue := s.tr.rigCue.set r none } ∧
           t.desk = (s.desk.offer (.rigState r (s.port r).link .excluded false (s.tracker r).tap
             ⟨false, false, false⟩ false) s.block).answered ⟨0x31, .accepted, s.sourceSummary⟩ ∧
           t = { s with trackers := t.trackers, tr := t.tr, desk := t.desk })) ∧
  (∀ s : State, s.Listening →
     exec (.admitRig .fallback) s = .next (s.answered 0x32 .badValue s.sourceSummary) ∧
     ∀ r,
       ((s.tracker r).st ≠ .excluded →
         exec (.admitRig (.rig r)) s = .next (s.answered 0x32 .accepted s.sourceSummary)) ∧
       ((s.tracker r).st = .excluded →
         let u : Tracker :=
           if (s.port r).link = .locked then
             { s.tracker r with
               st := .searching, matchCount := 0, notFound := 0, balance := 0, timer := some 0, beatDue := false }
           else { s.tracker r with st := .offline }
         exec (.admitRig (.rig r)) s = .next
           (({ s.setTracker r u with
               desk := s.desk.offer (.rigState r (s.port r).link u.st u.cued u.tap u.causes false) s.block } :
             State).answered 0x32 .accepted s.sourceSummary)))

/-- SET GROUP with a definition (R150) and with REMOVE (R151): BUSY outside IDLE and PARKED and while storing;
BAD_VALUE for a number or range out of bounds, an overlap with another group, or the removal of the only group;
otherwise the group is defined, keeping its state when it was and placed as ARM would when new in PARKED, or leaves
the table; UNSTORED. Each tracker keeps its record but for a SLIP that clears with the rig's last group, and the
requests of a rig that lost its last FOLLOW group are withdrawn (R99, R112, R158); the RIG_STATE of each such SLIP is
the only notice. -/
def Obligations.SetGroup : Prop :=
  (∀ (n : Nat) (d : GroupDef) (s : State), s.Listening →
     let no (r : Result) : Prop := exec (.setGroup n (some d)) s = .next (s.answered 0x33 r s.sourceSummary)
     let inRange : Prop := 1 ≤ n ∧ n ≤ 8 ∧ 1 ≤ d.first ∧ d.first ≤ d.last ∧ d.last ≤ 64
     let overlap : Prop := ∃ g ∈ s.groups, g.num ≠ n ∧ g.gdef.first ≤ d.last ∧ d.first ≤ g.gdef.last
     ((s.tr.st ≠ .idle ∧ s.tr.st ≠ .parked) ∨ ¬s.cond.Settled → no .busy) ∧
     (s.tr.st = .idle ∨ s.tr.st = .parked → s.cond.Settled →
       (¬inRange → no .badValue) ∧ (inRange → overlap → no .badValue) ∧
       (inRange → ¬overlap → GroupsSafe s.groups →
         ∃ (t : State) (g : Group), exec (.setGroup n (some d)) s = .next t ∧ g ∈ t.groups ∧ g.num = n ∧ g.gdef = d ∧
           (∀ h, h.num ≠ n → (h ∈ t.groups ↔ h ∈ s.groups)) ∧ (∀ h ∈ t.groups, h.num = n → h = g) ∧
           (∀ h ∈ s.groups, h.num = n → g = { h with gdef := d }) ∧
           ((∀ h ∈ s.groups, h.num ≠ n) → g.uncovered = false ∧ g.last = none ∧
             (s.tr.st = .idle → g.source = .fallback) ∧
             (s.tr.st = .parked → g.source = s.armSource)) ∧
           t.unstored = true ∧
           t.desk = (s.desk.offers (s.rigStates s.tracker t.tracker) s.block).answered ⟨0x33, .accepted, t.sourceSummary⟩ ∧
           (∀ r, t.tracker r = s.trackerAfter t.groups r) ∧
           t.arb = { s.arb with requests := s.requestsAfter t.groups } ∧
           t = { s with groups := t.groups, trackers := t.trackers, arb := t.arb, unstored := true, desk := t.desk }))) ∧
  (∀ (n : Nat) (s : State), s.Listening →
     let no (r : Result) : Prop := exec (.setGroup n none) s = .next (s.answered 0x33 r s.sourceSummary)
     ((s.tr.st ≠ .idle ∧ s.tr.st ≠ .parked) ∨ ¬s.cond.Settled → no .busy) ∧
     (s.tr.st = .idle ∨ s.tr.st = .parked → s.cond.Settled →
       (¬(1 ≤ n ∧ n ≤ 8) → no .badValue) ∧
       (1 ≤ n → n ≤ 8 → (∀ g ∈ s.groups, g.num ≠ n) → no .accepted) ∧
       (1 ≤ n → n ≤ 8 → (∃ g ∈ s.groups, g.num = n) → s.groups.length = 1 → no .badValue) ∧
       (1 ≤ n → n ≤ 8 → (∃ g ∈ s.groups, g.num = n) → 2 ≤ s.groups.length →
         ∃ t : State, exec (.setGroup n none) s = .next t ∧ t.groups = s.groups.filter (fun g => g.num != n) ∧
           t.unstored = true ∧
           t.desk = (s.desk.offers (s.rigStates s.tracker t.tracker) s.block).answered ⟨0x33, .accepted, t.sourceSummary⟩ ∧
           (∀ r, t.tracker r = s.trackerAfter t.groups r) ∧
           t.arb = { s.arb with requests := s.requestsAfter t.groups } ∧
           t = { s with groups := t.groups, trackers := t.trackers, arb := t.arb, unstored := true, desk := t.desk })))

/-! ## The takes (chapter 7) -/

/-- TAKE_START (R135, R136): due at the boundary; without an OUTGOING BLEND member the take settles at once; with one
it takes the lower-numbered free engine and blends from ramp count 0; an engine whose take has output its whole ramp
counts as free, that take's ramp end being taken at once without a notice; and when none is free the take with the
earlier start frame is snapped and hands its engine over. Starts at one boundary come in take-number order: a row for
a take while lower-numbered starts are due carries those out first. A start that is not due changes nothing; the due
mark and the row that carries out earlier starts are log entry 3. The ramp count that a take keeps in SETTLING, and a
settle countdown of 0 before it, are log entry 21. -/
def Obligations.TakeStart : Prop :=
  ∀ (t : Take) (s : State), s.power = true → (s.sw.takes.map (·.num)).Nodup → t ∈ s.sw.takes → t.st = .waiting →
    let started (m : Member) : Member :=
      if m.stage = .outgoing then { m with stage := if m.mode = .cut then .incoming else .ramp } else m
    let blends : Prop := ∃ m ∈ t.members, m.stage = .outgoing ∧ m.mode = .blend
    let put (u : Take) : List Take := s.sw.takes.map fun x => if x.num = t.num then u else x
    let blending (e : Bool) : Take :=
      { t with st := .blending, members := t.members.map started, engine := some e, ramp := 0, due := none }
    let settled (x : Take) : Take :=
      { x with
        st := .settling, engine := none, settleCount := x.settlePeriod, due := none
        members := x.members.map fun m => if m.stage = .ramp then { m with stage := .incoming } else m }
    let held (e : Bool) : Prop := ∃ u ∈ s.sw.takes, u.engine = some e
    (t.due ≠ some .start → exec (.takeStart t.num) s = .next (kick s)) ∧
    (t.due = some .start → ∀ p ∈ s.sw.takes, p.num < t.num → p.st = .waiting → p.due = some .start →
      (∀ x ∈ s.sw.takes, x.st = .waiting → x.due = some .start → p.num ≤ x.num) → s.ServiceSafe →
      exec (.takeStart t.num) s = .next (kick (takeStart t.num (takeStart p.num s))) ∧
        exec (.takeStart p.num) s = .next (kick (takeStart p.num s))) ∧
    (t.due = some .start → (∀ x ∈ s.sw.takes, x.num < t.num → ¬(x.st = .waiting ∧ x.due = some .start)) →
      (¬blends → exec (.takeStart t.num) s = .next (kick { s with
        sw := { s.sw with takes := put (settled { t with members := t.members.map started }) } })) ∧
      (blends → ¬held false →
        exec (.takeStart t.num) s = .next (kick { s with sw := { s.sw with takes := put (blending false) } })) ∧
      (blends → held false → ¬held true → (∀ u ∈ s.sw.takes, u.engine = some false → u.rampDone = false) →
        exec (.takeStart t.num) s = .next (kick { s with sw := { s.sw with takes := put (blending true) } })) ∧
      (∀ (u : Take) (e : Bool), blends → u ∈ s.sw.takes → u.engine = some e → u.st = .blending →
        u.blendLength ≤ u.ramp → (∀ x ∈ s.sw.takes, x.engine = some e → x = u) →
        (e = true → ∃ v ∈ s.sw.takes, v.engine = some false ∧ v.rampDone = false) →
        let handed (y : Take) : Take :=
          if y.num = t.num then blending e else if y.num = u.num then settled u else y
        exec (.takeStart t.num) s = .next (kick { s with sw := { s.sw with takes := s.sw.takes.map handed } })) ∧
      (∀ u v, u ∈ s.sw.takes → v ∈ s.sw.takes → blends → u.st = .blending → v.st = .blending →
        u.engine = some false → v.engine = some true → u.rampDone = false → v.rampDone = false →
        (∀ x ∈ s.sw.takes, x.st = .blending → x = u ∨ x = v) →
        let apart : Int := frameDiff v.startFrame u.startFrame
        let hand (x : Take) (e : Bool) : State :=
          { s with
            desk := s.desk.offer (.takeSnapped x.num .engine ((x.members.filter fun m => m.stage == .ramp).map (·.group))
              x.ramp t.num .settling) s.block
            sw := { s.sw with takes := s.sw.takes.map fun y =>
              if y.num = t.num then blending e else if y.num = x.num then settled x else y } }
        (0 ≤ apart → exec (.takeStart t.num) s = .next (kick (hand u false))) ∧
        (apart < 0 → apart ≠ -(2 ^ 36) → exec (.takeStart t.num) s = .next (kick (hand v true)))))

/-- RAMP_END (R139): due, the RAMP members become INCOMING, the engine is free and the settle countdown set; no
notice. SETTLE_END (R140, R141, R120): due, every member's group stands on the target with its mark cleared and its
last take record written, the take is gone, its levels are out of service, TAKE_SETTLED names each group with its
source, and the requests that wait are then examined. A fault of a take's target (R142, R143, R148, R105): the take
closes as spoiled, members past their start complete, the others stay, with TAKE_SPOILED; a standing failure of a rig
that an unstarted member stays on is renewed, and when REQUESTED served. Not due, neither row does anything (log entry
3); the order of the notices is log entry 11, and the FAULT of a renewed SLIP without its detail log entry 9. At a
close each tracker keeps its record but for a SLIP that clears with the rig's last group, and the requests of a rig
that lost its last FOLLOW group are withdrawn (R99, R112, R158). The ramp count kept in SETTLING is log entry 21. -/
def Obligations.RampAndSettleEnd : Prop :=
  (∀ (t : Take) (s : State), s.power = true → (s.sw.takes.map (·.num)).Nodup → t ∈ s.sw.takes →
     (¬(t.st = .blending ∧ t.due = some .rampEnd) → exec (.rampEnd t.num) s = .next (kick s)) ∧
     (t.st = .blending → t.due = some .rampEnd →
       exec (.rampEnd t.num) s = .next (kick { s with sw := { s.sw with takes := s.sw.takes.map fun x =>
         if x.num = t.num then
           { t with
             st := .settling, engine := none, settleCount := t.settlePeriod, due := none
             members := t.members.map fun m => if m.stage = .ramp then { m with stage := .incoming } else m }
         else x } })) ∧
     (¬(t.st = .settling ∧ t.due = some .settleEnd) → exec (.settleEnd t.num) s = .next (kick s)) ∧
     (t.st = .settling → t.due = some .settleEnd →
       ∃ (u : State) (after : List (Nat × Source)),
         exec (.settleEnd t.num) s = .next (kick (examine u)) ∧
         (s.arb.requests = [] → exec (.settleEnd t.num) s = .next (kick u)) ∧
         u.sw = { s.sw with takes := s.sw.takes.filter fun x => x.num != t.num } ∧
         u.arb = ⟨s.requestsAfter u.groups, s.arb.inService.filter fun x => x.2 != t.num⟩ ∧
         (∀ r, u.tracker r = s.trackerAfter u.groups r) ∧ u.groups.length = s.groups.length ∧
         (∀ (i : Nat) (g : Group), s.groups[i]? = some g →
           ((∀ m ∈ t.members, m.group ≠ g.num) → u.groups[i]? = some g) ∧
           (∀ m ∈ t.members, (t.members.map (·.group)).Nodup → m.group = g.num →
             u.groups[i]? = some { g with
               source := t.target, uncovered := false
               last := some ⟨t.num, t.cause, m.src, t.target, some (frameBlock t.startFrame)⟩ })) ∧
         after.map (·.1) = t.members.map (·.group) ∧
         ((s.groups.map (·.num)).Nodup → ∀ x ∈ after, ∀ g ∈ u.groups, g.num = x.1 → x.2 = g.source) ∧
         u.desk = s.desk.offers
           (s.rigStates s.tracker u.tracker ++
             [.takeSettled t.num .settled t.cause t.target t.levels none (some (frameBlock t.startFrame)) after])
           s.block ∧
         u = { s with sw := u.sw, arb := u.arb, groups := u.groups, trackers := u.trackers, desk := u.desk })) ∧
  (∀ (r : Rig) (t : Take) (s : State), s.sw.takes = [t] → t.target = .rig r → s.arb.requests = [] →
     (t.members.map (·.group)).Nodup → s.tr.st = .rolling →
     let completing (m : Member) : Prop := t.st ≠ .waiting ∨ m.stage = .incoming
     let left (x : Rig) : Prop := t.st = .waiting ∧ ∃ m ∈ t.members, m.stage ≠ .incoming ∧ m.src = .rig x
     let started : Option HouseBlock := if t.st = .waiting then none else some (frameBlock t.startFrame)
     ∃ (u : State) (done : List Nat) (stays : List (Nat × Source)),
       u.sw = { s.sw with takes := [] } ∧ u.arb = ⟨[], s.arb.inService.filter fun x => x.2 != t.num⟩ ∧
       u.groups.length = s.groups.length ∧ (∀ r, u.tracker r = s.trackerAfter u.groups r) ∧
       (∀ (i : Nat) (g : Group), s.groups[i]? = some g →
         ((∀ m ∈ t.members, m.group = g.num → ¬completing m) → u.groups[i]? = some g) ∧
         ∀ m ∈ t.members, m.group = g.num → completing m → u.groups[i]? = some { g with
           source := .rig r, uncovered := false, last := some ⟨t.num, t.cause, m.src, .rig r, started⟩ }) ∧
       u.desk = s.desk.offers (s.rigStates s.tracker u.tracker ++ [.takeSpoiled t.num (.rig r) t.st t.levels done stays]) s.block ∧
       (∀ n, n ∈ done ↔ ∃ m ∈ t.members, m.group = n ∧ completing m) ∧
       (∀ n, n ∈ stays.map (·.1) ↔ ∃ m ∈ t.members, m.group = n ∧ ¬completing m) ∧
       u = { s with sw := u.sw, arb := u.arb, groups := u.groups, trackers := u.trackers, desk := u.desk } ∧
       ((∀ x, left x → (u.tracker x).st ≠ .failed ∧ (u.tracker x).st ≠ .offline) → targetFault r s = u) ∧
       ∀ x d, left x → (∀ y, left y → y = x) → u.Stands x d →
         (decide103 x d u ≠ .requested → targetFault r s = u) ∧
         (decide103 x d u = .requested → u.Quiet → targetFault r s = u.renewed x d))

/-- TAKE_WAIT_EXPIRY (R134, R117, R141, R148): due, the target is dropped; a take of any cause but MANUAL goes to the
next rig that a service would choose, a LINK take without one to FALLBACK after NO_COVER. Otherwise it is a no-cover:
NO_COVER, the INCOMING members completed with their marks cleared, the others left on their sources and marked where
that is the faulted rig (STALL, SLIP, BEAT) or with their marks as they were (RECOVER, MANUAL), TAKE_SETTLED; then the
requests that wait are examined (R120). The take's rig stands as the faulted rig of every re-choice, RECOVER's too
(R117's words over R113's), and R117's 'with its mark as it was' is read of the members that are not completed (log
entry 11). Not due, nothing happens (log entry 3). After a no-cover each tracker keeps its record but for a SLIP that
clears with the rig's last group (R99, R158). -/
def Obligations.TakeWaitExpiry : Prop :=
  ∀ (t : Take) (old : Rig) (s : State), s.power = true → (s.sw.takes.map (·.num)).Nodup → t ∈ s.sw.takes →
    t.st = .waiting → t.target = .rig old →
    let again (target : Source) (dropped : List Rig) : Take :=
      { t with
        target := target, dropped := dropped, wait := 0, due := none, startFrame := firstFrame (s.block + 1)
        members := t.members.map fun m =>
          { m with stage := if m.src = target then .incoming else .outgoing
                   mode := if target = .fallback then .cut else m.mode } }
    let put (u : Take) : Switch := { s.sw with takes := s.sw.takes.map fun x => if x.num = t.num then u else x }
    (t.due ≠ some .waitExpiry → exec (.takeWaitExpiry t.num) s = .next (kick s)) ∧
    (t.due = some .waitExpiry →
      ∃ dropped : List Rig, (∀ r, r ∈ dropped ↔ r ∈ t.dropped ∨ r = old) ∧
        (∀ r, t.cause ≠ .manual → chooseTarget s (some t.rig) dropped = some r →
          let u := again (.rig r) dropped
          exec (.takeWaitExpiry t.num) s = .next (kick (raise
            (.takeBegun t.num t.cause t.levels (.rig r) u.members [] true dropped) { s with sw := put u }))) ∧
        (t.cause = .link → chooseTarget s (some t.rig) dropped = none →
          let u := again .fallback dropped
          exec (.takeWaitExpiry t.num) s = .next (kick (raise
            (.takeBegun t.num .link t.levels .fallback u.members [] true dropped)
            { raise (.noCover .link 0 t.rig .fallback (t.members.map (·.group)) (some t.num)) s with sw := put u }))) ∧
        (t.cause = .manual → s.arb.requests = [] → (∀ m ∈ t.members, m.stage = .outgoing) →
          ∃ u : State, exec (.takeWaitExpiry t.num) s = .next u ∧ u.groups = s.groups ∧
            u.sw = { s.sw with takes := s.sw.takes.filter fun x => x.num != t.num } ∧
            u.arb = ⟨[], s.arb.inService.filter fun x => x.2 != t.num⟩ ∧
            u = { s with sw := u.sw, arb := u.arb, desk := u.desk }) ∧
        (t.cause ≠ .link → t.cause = .manual ∨ chooseTarget s (some t.rig) dropped = none →
          (t.members.map (·.group)).Nodup → (s.groups.map (·.num)).Nodup →
          let moves : Prop := t.cause = .manual ∨ t.cause = .recover
          let level : Nat := match t.cause with
            | .link => 0
            | .stall => 1
            | .slip => 2
            | .beat => 3
            | _ => 4
          let on : List Nat :=
            (s.groups.filter fun g => (t.members.any fun m => m.group == g.num) && g.source == .rig t.rig).map (·.num)
          ∃ (u : State) (after : List (Nat × Source)),
            exec (.takeWaitExpiry t.num) s = .next (kick (examine u)) ∧
            (s.arb.requests = [] → exec (.takeWaitExpiry t.num) s = .next (kick u)) ∧
            u.sw = { s.sw with takes := s.sw.takes.filter fun x => x.num != t.num } ∧
            u.arb = ⟨s.requestsAfter u.groups, s.arb.inService.filter fun x => x.2 != t.num⟩ ∧
            u.groups.length = s.groups.length ∧
            (∀ (i : Nat) (g : Group), s.groups[i]? = some g →
              ((∀ m ∈ t.members, m.group ≠ g.num) → u.groups[i]? = some g) ∧
              ∀ m ∈ t.members, m.group = g.num →
                (m.stage ≠ .incoming → moves → u.groups[i]? = some g) ∧
                (m.stage ≠ .incoming → ¬moves →
                  u.groups[i]? = some { g with uncovered := g.uncovered || g.source == .rig t.rig }) ∧
                (m.stage = .incoming → u.groups[i]? = some { g with
                  source := .rig old, last := some ⟨t.num, t.cause, m.src, .rig old, none⟩
                  uncovered := false })) ∧
            (∀ r, u.tracker r = s.trackerAfter u.groups r) ∧
            after.map (·.1) = t.members.map (·.group) ∧
            (∀ x ∈ after, ∀ g ∈ u.groups, g.num = x.1 → x.2 = g.source) ∧
            u.desk = s.desk.offers
              (.noCover t.cause level t.rig (if t.cause = .manual ∨ t.cause = .recover then .unchanged else .uncovered)
                  (if t.cause = .manual ∨ t.cause = .recover then t.members.map (·.group) else on) (some t.num) ::
                (s.rigStates s.tracker u.tracker ++ [.takeSettled t.num .noCover t.cause (.rig old) t.levels none none after])) s.block ∧
            u = { s with sw := u.sw, arb := u.arb, groups := u.groups, trackers := u.trackers, desk := u.desk }))

/-! ## The outputs (chapters 7 to 9) -/

/-- The blend (R137): the sample is the weighted sum rounded to nearest with halves up; at the last frame of the ramp
it is the incoming sample exactly, and it always lies between the two samples. -/
def Obligations.BlendRules : Prop :=
  ∀ (L k : Nat) (x y : Int), 0 < L → k < L →
    let gIn : Int := ((32768 * (k + 1) / L : Nat) : Int)
    let z := blendSample L k x y
    32768 * z ≤ x * (32768 - gIn) + y * gIn + 16384 ∧ x * (32768 - gIn) + y * gIn + 16384 < 32768 * (z + 1) ∧
      (k = L - 1 → z = y) ∧ min x y ≤ z ∧ z ≤ max x y

/-- OUTPUT_FRAME (R152, R153, R138, R162): with nothing due, the 64 program samples of the next frame of the block are
formed and the phase moves on; a channel of no group is 0; a group in no take gives its rig's read at the tap or its
fallback signal; a member gives what its stage says; the running Time message of the frame is formed (TimecodeOut says
when). After the block's 32 frames nothing is output (log entry 5). -/
def Obligations.OutputFrame : Prop :=
  ∀ s : State, s.power = true →
    (32 ≤ s.phase → exec .outputFrame s = .next (kick s)) ∧
    (s.phase < 32 → s.NothingDue →
      ∃ t : State, exec .outputFrame s = .next t ∧ t.phase = s.phase + 1 ∧ t.block = s.block ∧
        t.program.length = 64 ∧
        t.sw.takes = s.sw.takes.map (fun u =>
          if u.st = .blending then { u with ramp := min u.blendLength (u.ramp + 1) } else u) ∧
        (∀ c, 1 ≤ c → c ≤ 64 →
          let heard (g : Group) (src : Source) : Int := match src with
            | .rig r => readLine (s.port r).line (frameAt s.block s.phase - BitVec.ofNat 37 (s.tracker r).tap) c
            | .fallback => match g.gdef.fallback with
              | .silence => 0
              | .click => clickSample s
          ((∀ g ∈ s.groups, ¬(g.gdef.first ≤ c ∧ c ≤ g.gdef.last)) → t.program[c - 1]? = some 0) ∧
          ∀ g ∈ s.groups, g.gdef.first ≤ c → c ≤ g.gdef.last →
            (∀ h ∈ s.groups, h.gdef.first ≤ c → c ≤ h.gdef.last → h = g) →
            ((∀ u ∈ s.sw.takes, ∀ m ∈ u.members, m.group ≠ g.num) → t.program[c - 1]? = some (heard g g.source)) ∧
            ∀ u m before after, s.sw.takes = before ++ u :: after → m ∈ u.members → m.group = g.num →
              (∀ w ∈ before, ∀ n ∈ w.members, n.group ≠ g.num) → (∀ n ∈ u.members, n.group = g.num → n = m) →
              (m.stage = .outgoing → t.program[c - 1]? = some (heard g m.src)) ∧
              (m.stage = .incoming → t.program[c - 1]? = some (heard g u.target)) ∧
              (m.stage = .ramp → u.ramp < u.blendLength →
                t.program[c - 1]? =
                  some (blendSample u.blendLength u.ramp (heard g m.src) (heard g u.target)))) ∧
        t.tc = (formRunning s).tc ∧
        t = { s with phase := t.phase, program := t.program, sw := t.sw, tc := t.tc, desk := s.desk.kick })

/-- The timecode value (R161): the start plus floor (F / q) timecode frames, the hours wrapping past 23. The running
message (R162): formed exactly at each F that is a multiple of q; none outside ROLLING (R160), in the block that
begins at the change to ROLLING, without a house position or its entry, and in a segment without a timecode part.
HELD_MESSAGE_TIMER_EXPIRY (R164): one message with RUNNING clear, zeros with rate 0 in a segment without a timecode
part; not due it changes nothing (log entry 3). The port (R165): a message begins at once or waits, a newer one taking
its place with JUMP when either carried it; TIME_MESSAGE_END begins the waiting one or leaves the port idle. -/
def Obligations.TimecodeOut : Prop :=
  (∀ (r : Rate) (p : TcPart) (f : Nat), (p.rate = 24 ∨ p.rate = 25 ∨ p.rate = 30) → p.start.hours ≤ 23 →
     p.start.minutes ≤ 59 → p.start.seconds ≤ 59 → p.start.frames < p.rate →
     let v := tcValueAt r p f
     let count (x : TcValue) : Nat := ((x.hours * 60 + x.minutes) * 60 + x.seconds) * p.rate + x.frames
     v.hours ≤ 23 ∧ v.minutes ≤ 59 ∧ v.seconds ≤ 59 ∧ v.frames < p.rate ∧
       count v = (count p.start + f / (r.frames / p.rate)) % (24 * 3600 * p.rate)) ∧
  (∀ (p : Pos) (e : SegmentEntry) (c : TcPart) (s : State), s.tr.house = some p → s.setList[p.index]? = some e →
     e.timecode = some c →
     let f := p.offset * 32 + s.phase
     let q := s.settings.rate.frames / c.rate
     (s.tr.st = .rolling → s.tr.heard = true → f % q = 0 →
       let m : TimeMsg := ⟨true, s.tc.jump, tcValueAt s.settings.rate c f, c.rate, e.code⟩
       formRunning s = { s with tc := handTimeMsg m { s.tc with value := m.value, running := true, jump := false } }) ∧
     (s.tr.st ≠ .rolling ∨ s.tr.heard = false ∨ f % q ≠ 0 → formRunning s = s)) ∧
  (∀ s : State,
     s.tr.st ≠ .rolling ∨ s.tr.heard = false ∨ s.tr.house = none ∨
       (∃ p, s.tr.house = some p ∧ (s.setList[p.index]? = none ∨
         ∃ e, s.setList[p.index]? = some e ∧ e.timecode = none)) →
     formRunning s = s) ∧
  (∀ s : State, s.power = true →
     (s.tc.heldDue = false → exec .heldMessageTimerExpiry s = .next (kick s)) ∧
     (s.tc.heldDue = true → ∀ p e, s.tr.house = some p → s.setList[p.index]? = some e →
       let formed (value : TcValue) (rate : Nat) : State :=
         let m : TimeMsg := ⟨false, s.tc.jump, value, rate, e.code⟩
         let t : Timecode := { s.tc with value := value, running := false, jump := false, heldDue := false }
         { s with tc := handTimeMsg m t }
       (∀ c, e.timecode = some c →
         exec .heldMessageTimerExpiry s =
           .next (kick (formed (tcValueAt s.settings.rate c (p.offset * 32)) c.rate))) ∧
       (e.timecode = none → exec .heldMessageTimerExpiry s = .next (kick (formed ⟨0, 0, 0, 0⟩ 0))))) ∧
  ((∀ (m : TimeMsg) (t : Timecode),
     (t.sending = none → handTimeMsg m t = { t with sending := some m }) ∧
     ∀ x, t.sending = some x →
       (t.waiting = none → handTimeMsg m t = { t with waiting := some m }) ∧
       ∀ w, t.waiting = some w → handTimeMsg m t = { t with waiting := some { m with jump := m.jump || w.jump } }) ∧
     ∀ s : State, s.power = true →
       exec .timeMessageEnd s = .next (kick { s with tc := { s.tc with sending := s.tc.waiting, waiting := none } }))

/-- The beat grid and the click (R166, R167, R153): frames per beat is the rate over the tempo to the nearest integer,
halves up; the sample is 0 before the downbeat and after the burst, and otherwise a square wave, an accent on each
bar's first beat. A CLICK group's sample in OUTPUT_FRAME is that of the present grid at the house position's frame
offset, and 0 without a grid. -/
def Obligations.ClickOut : Prop :=
  (∀ (r : Rate) (tempo : Nat), 0 < tempo →
    2 * tempo * framesPerBeat r tempo ≤ 2 * r.frames * 6000 + tempo ∧
      2 * r.frames * 6000 + tempo < 2 * tempo * (framesPerBeat r tempo + 1)) ∧
    (∀ (r : Rate) (g : Grid) (f n w : Nat), 0 < g.perBeat → w < g.perBeat →
      let half (accent : Bool) : Nat := (if accent then 12 else 24) * (if r = .r48 then 1 else 2)
      (f < g.downbeat → clickOf r g f = 0) ∧
      (f = g.downbeat + n * g.perBeat + w →
        (g.burst ≤ w → clickOf r g f = 0) ∧
        (w < g.burst → clickOf r g f =
          if w / half (decide (n % g.beats = 0)) % 2 = 0 then 1048576 else -1048576))) ∧
  ∀ s : State, (s.grid = none → clickSample s = 0) ∧
    ∀ (g : Grid) (p : Pos), s.grid = some g → s.tr.house = some p →
      clickSample s = clickOf s.settings.rate g (p.offset * 32 + s.phase)
end

