-- ==== Sys2Proof/Laws/State.lean ====
section
/-! SUPPORT. One lemma per field of State per update, true by rfl: what each of the named updates leaves as it was. -/

namespace Sys2Proof.Machine

variable (s : State)

/-! ## State.setPort -/

@[simp] theorem State.setPort_power (r : Rig) (p : Port) : (s.setPort r p).power = s.power := rfl
@[simp] theorem State.setPort_block (r : Rig) (p : Port) : (s.setPort r p).block = s.block := rfl
@[simp] theorem State.setPort_phase (r : Rig) (p : Port) : (s.setPort r p).phase = s.phase := rfl
@[simp] theorem State.setPort_setList (r : Rig) (p : Port) : (s.setPort r p).setList = s.setList := rfl
@[simp] theorem State.setPort_cond (r : Rig) (p : Port) : (s.setPort r p).cond = s.cond := rfl
@[simp] theorem State.setPort_unstored (r : Rig) (p : Port) : (s.setPort r p).unstored = s.unstored := rfl
@[simp] theorem State.setPort_retained (r : Rig) (p : Port) : (s.setPort r p).retained = s.retained := rfl
@[simp] theorem State.setPort_settings (r : Rig) (p : Port) : (s.setPort r p).settings = s.settings := rfl
@[simp] theorem State.setPort_prefs (r : Rig) (p : Port) : (s.setPort r p).prefs = s.prefs := rfl
@[simp] theorem State.setPort_tr (r : Rig) (p : Port) : (s.setPort r p).tr = s.tr := rfl
@[simp] theorem State.setPort_trackers (r : Rig) (p : Port) : (s.setPort r p).trackers = s.trackers := rfl
@[simp] theorem State.setPort_arb (r : Rig) (p : Port) : (s.setPort r p).arb = s.arb := rfl
@[simp] theorem State.setPort_sw (r : Rig) (p : Port) : (s.setPort r p).sw = s.sw := rfl
@[simp] theorem State.setPort_groups (r : Rig) (p : Port) : (s.setPort r p).groups = s.groups := rfl
@[simp] theorem State.setPort_program (r : Rig) (p : Port) : (s.setPort r p).program = s.program := rfl
@[simp] theorem State.setPort_tc (r : Rig) (p : Port) : (s.setPort r p).tc = s.tc := rfl
@[simp] theorem State.setPort_grid (r : Rig) (p : Port) : (s.setPort r p).grid = s.grid := rfl
@[simp] theorem State.setPort_desk (r : Rig) (p : Port) : (s.setPort r p).desk = s.desk := rfl
@[simp] theorem State.setPort_freeCount (r : Rig) (p : Port) : (s.setPort r p).freeCount = s.freeCount := rfl
@[simp] theorem State.setPort_pending (r : Rig) (p : Port) : (s.setPort r p).pending = s.pending := rfl
@[simp] theorem State.setPort_tracker (r : Rig) (p : Port) (x : Rig) : (s.setPort r p).tracker x = s.tracker x := rfl

/-! ## State.setTracker -/

@[simp] theorem State.setTracker_power (r : Rig) (t : Tracker) : (s.setTracker r t).power = s.power := rfl
@[simp] theorem State.setTracker_block (r : Rig) (t : Tracker) : (s.setTracker r t).block = s.block := rfl
@[simp] theorem State.setTracker_phase (r : Rig) (t : Tracker) : (s.setTracker r t).phase = s.phase := rfl
@[simp] theorem State.setTracker_setList (r : Rig) (t : Tracker) : (s.setTracker r t).setList = s.setList := rfl
@[simp] theorem State.setTracker_cond (r : Rig) (t : Tracker) : (s.setTracker r t).cond = s.cond := rfl
@[simp] theorem State.setTracker_unstored (r : Rig) (t : Tracker) : (s.setTracker r t).unstored = s.unstored := rfl
@[simp] theorem State.setTracker_retained (r : Rig) (t : Tracker) : (s.setTracker r t).retained = s.retained := rfl
@[simp] theorem State.setTracker_settings (r : Rig) (t : Tracker) : (s.setTracker r t).settings = s.settings := rfl
@[simp] theorem State.setTracker_prefs (r : Rig) (t : Tracker) : (s.setTracker r t).prefs = s.prefs := rfl
@[simp] theorem State.setTracker_tr (r : Rig) (t : Tracker) : (s.setTracker r t).tr = s.tr := rfl
@[simp] theorem State.setTracker_ports (r : Rig) (t : Tracker) : (s.setTracker r t).ports = s.ports := rfl
@[simp] theorem State.setTracker_arb (r : Rig) (t : Tracker) : (s.setTracker r t).arb = s.arb := rfl
@[simp] theorem State.setTracker_sw (r : Rig) (t : Tracker) : (s.setTracker r t).sw = s.sw := rfl
@[simp] theorem State.setTracker_groups (r : Rig) (t : Tracker) : (s.setTracker r t).groups = s.groups := rfl
@[simp] theorem State.setTracker_program (r : Rig) (t : Tracker) : (s.setTracker r t).program = s.program := rfl
@[simp] theorem State.setTracker_tc (r : Rig) (t : Tracker) : (s.setTracker r t).tc = s.tc := rfl
@[simp] theorem State.setTracker_grid (r : Rig) (t : Tracker) : (s.setTracker r t).grid = s.grid := rfl
@[simp] theorem State.setTracker_desk (r : Rig) (t : Tracker) : (s.setTracker r t).desk = s.desk := rfl
@[simp] theorem State.setTracker_freeCount (r : Rig) (t : Tracker) : (s.setTracker r t).freeCount = s.freeCount := rfl
@[simp] theorem State.setTracker_pending (r : Rig) (t : Tracker) : (s.setTracker r t).pending = s.pending := rfl
@[simp] theorem State.setTracker_port (r : Rig) (t : Tracker) (x : Rig) : (s.setTracker r t).port x = s.port x := rfl

/-! ## State.setRigCue -/

@[simp] theorem State.setRigCue_power (r : Rig) (c : Option Bool) : (s.setRigCue r c).power = s.power := rfl
@[simp] theorem State.setRigCue_block (r : Rig) (c : Option Bool) : (s.setRigCue r c).block = s.block := rfl
@[simp] theorem State.setRigCue_phase (r : Rig) (c : Option Bool) : (s.setRigCue r c).phase = s.phase := rfl
@[simp] theorem State.setRigCue_setList (r : Rig) (c : Option Bool) : (s.setRigCue r c).setList = s.setList := rfl
@[simp] theorem State.setRigCue_cond (r : Rig) (c : Option Bool) : (s.setRigCue r c).cond = s.cond := rfl
@[simp] theorem State.setRigCue_unstored (r : Rig) (c : Option Bool) : (s.setRigCue r c).unstored = s.unstored := rfl
@[simp] theorem State.setRigCue_retained (r : Rig) (c : Option Bool) : (s.setRigCue r c).retained = s.retained := rfl
@[simp] theorem State.setRigCue_settings (r : Rig) (c : Option Bool) : (s.setRigCue r c).settings = s.settings := rfl
@[simp] theorem State.setRigCue_prefs (r : Rig) (c : Option Bool) : (s.setRigCue r c).prefs = s.prefs := rfl
@[simp] theorem State.setRigCue_ports (r : Rig) (c : Option Bool) : (s.setRigCue r c).ports = s.ports := rfl
@[simp] theorem State.setRigCue_trackers (r : Rig) (c : Option Bool) : (s.setRigCue r c).trackers = s.trackers := rfl
@[simp] theorem State.setRigCue_arb (r : Rig) (c : Option Bool) : (s.setRigCue r c).arb = s.arb := rfl
@[simp] theorem State.setRigCue_sw (r : Rig) (c : Option Bool) : (s.setRigCue r c).sw = s.sw := rfl
@[simp] theorem State.setRigCue_groups (r : Rig) (c : Option Bool) : (s.setRigCue r c).groups = s.groups := rfl
@[simp] theorem State.setRigCue_program (r : Rig) (c : Option Bool) : (s.setRigCue r c).program = s.program := rfl
@[simp] theorem State.setRigCue_tc (r : Rig) (c : Option Bool) : (s.setRigCue r c).tc = s.tc := rfl
@[simp] theorem State.setRigCue_grid (r : Rig) (c : Option Bool) : (s.setRigCue r c).grid = s.grid := rfl
@[simp] theorem State.setRigCue_desk (r : Rig) (c : Option Bool) : (s.setRigCue r c).desk = s.desk := rfl
@[simp] theorem State.setRigCue_freeCount (r : Rig) (c : Option Bool) : (s.setRigCue r c).freeCount = s.freeCount := rfl
@[simp] theorem State.setRigCue_pending (r : Rig) (c : Option Bool) : (s.setRigCue r c).pending = s.pending := rfl
@[simp] theorem State.setRigCue_port (r : Rig) (c : Option Bool) (x : Rig) : (s.setRigCue r c).port x = s.port x := rfl
@[simp] theorem State.setRigCue_tracker (r : Rig) (c : Option Bool) (x : Rig) : (s.setRigCue r c).tracker x = s.tracker x := rfl

/-! ## raise -/

@[simp] theorem raise_power (b : NoticeBody) : (raise b s).power = s.power := rfl
@[simp] theorem raise_block (b : NoticeBody) : (raise b s).block = s.block := rfl
@[simp] theorem raise_phase (b : NoticeBody) : (raise b s).phase = s.phase := rfl
@[simp] theorem raise_setList (b : NoticeBody) : (raise b s).setList = s.setList := rfl
@[simp] theorem raise_cond (b : NoticeBody) : (raise b s).cond = s.cond := rfl
@[simp] theorem raise_unstored (b : NoticeBody) : (raise b s).unstored = s.unstored := rfl
@[simp] theorem raise_retained (b : NoticeBody) : (raise b s).retained = s.retained := rfl
@[simp] theorem raise_settings (b : NoticeBody) : (raise b s).settings = s.settings := rfl
@[simp] theorem raise_prefs (b : NoticeBody) : (raise b s).prefs = s.prefs := rfl
@[simp] theorem raise_tr (b : NoticeBody) : (raise b s).tr = s.tr := rfl
@[simp] theorem raise_ports (b : NoticeBody) : (raise b s).ports = s.ports := rfl
@[simp] theorem raise_trackers (b : NoticeBody) : (raise b s).trackers = s.trackers := rfl
@[simp] theorem raise_arb (b : NoticeBody) : (raise b s).arb = s.arb := rfl
@[simp] theorem raise_sw (b : NoticeBody) : (raise b s).sw = s.sw := rfl
@[simp] theorem raise_groups (b : NoticeBody) : (raise b s).groups = s.groups := rfl
@[simp] theorem raise_program (b : NoticeBody) : (raise b s).program = s.program := rfl
@[simp] theorem raise_tc (b : NoticeBody) : (raise b s).tc = s.tc := rfl
@[simp] theorem raise_grid (b : NoticeBody) : (raise b s).grid = s.grid := rfl
@[simp] theorem raise_freeCount (b : NoticeBody) : (raise b s).freeCount = s.freeCount := rfl
@[simp] theorem raise_pending (b : NoticeBody) : (raise b s).pending = s.pending := rfl
@[simp] theorem raise_port (b : NoticeBody) (x : Rig) : (raise b s).port x = s.port x := rfl
@[simp] theorem raise_tracker (b : NoticeBody) (x : Rig) : (raise b s).tracker x = s.tracker x := rfl

/-! ## raiseRigState -/

@[simp] theorem raiseRigState_power (r : Rig) (n : Bool) : (raiseRigState r n s).power = s.power := rfl
@[simp] theorem raiseRigState_block (r : Rig) (n : Bool) : (raiseRigState r n s).block = s.block := rfl
@[simp] theorem raiseRigState_phase (r : Rig) (n : Bool) : (raiseRigState r n s).phase = s.phase := rfl
@[simp] theorem raiseRigState_setList (r : Rig) (n : Bool) : (raiseRigState r n s).setList = s.setList := rfl
@[simp] theorem raiseRigState_cond (r : Rig) (n : Bool) : (raiseRigState r n s).cond = s.cond := rfl
@[simp] theorem raiseRigState_unstored (r : Rig) (n : Bool) : (raiseRigState r n s).unstored = s.unstored := rfl
@[simp] theorem raiseRigState_retained (r : Rig) (n : Bool) : (raiseRigState r n s).retained = s.retained := rfl
@[simp] theorem raiseRigState_settings (r : Rig) (n : Bool) : (raiseRigState r n s).settings = s.settings := rfl
@[simp] theorem raiseRigState_prefs (r : Rig) (n : Bool) : (raiseRigState r n s).prefs = s.prefs := rfl
@[simp] theorem raiseRigState_tr (r : Rig) (n : Bool) : (raiseRigState r n s).tr = s.tr := rfl
@[simp] theorem raiseRigState_ports (r : Rig) (n : Bool) : (raiseRigState r n s).ports = s.ports := rfl
@[simp] theorem raiseRigState_trackers (r : Rig) (n : Bool) : (raiseRigState r n s).trackers = s.trackers := rfl
@[simp] theorem raiseRigState_arb (r : Rig) (n : Bool) : (raiseRigState r n s).arb = s.arb := rfl
@[simp] theorem raiseRigState_sw (r : Rig) (n : Bool) : (raiseRigState r n s).sw = s.sw := rfl
@[simp] theorem raiseRigState_groups (r : Rig) (n : Bool) : (raiseRigState r n s).groups = s.groups := rfl
@[simp] theorem raiseRigState_program (r : Rig) (n : Bool) : (raiseRigState r n s).program = s.program := rfl
@[simp] theorem raiseRigState_tc (r : Rig) (n : Bool) : (raiseRigState r n s).tc = s.tc := rfl
@[simp] theorem raiseRigState_grid (r : Rig) (n : Bool) : (raiseRigState r n s).grid = s.grid := rfl
@[simp] theorem raiseRigState_freeCount (r : Rig) (n : Bool) : (raiseRigState r n s).freeCount = s.freeCount := rfl
@[simp] theorem raiseRigState_pending (r : Rig) (n : Bool) : (raiseRigState r n s).pending = s.pending := rfl
@[simp] theorem raiseRigState_port (r : Rig) (n : Bool) (x : Rig) : (raiseRigState r n s).port x = s.port x := rfl
@[simp] theorem raiseRigState_tracker (r : Rig) (n : Bool) (x : Rig) : (raiseRigState r n s).tracker x = s.tracker x := rfl

/-! ## raiseTransport -/

@[simp] theorem raiseTransport_power (reason : TransportReason) : (raiseTransport reason s).power = s.power := rfl
@[simp] theorem raiseTransport_block (reason : TransportReason) : (raiseTransport reason s).block = s.block := rfl
@[simp] theorem raiseTransport_phase (reason : TransportReason) : (raiseTransport reason s).phase = s.phase := rfl
@[simp] theorem raiseTransport_setList (reason : TransportReason) : (raiseTransport reason s).setList = s.setList := rfl
@[simp] theorem raiseTransport_cond (reason : TransportReason) : (raiseTransport reason s).cond = s.cond := rfl
@[simp] theorem raiseTransport_unstored (reason : TransportReason) : (raiseTransport reason s).unstored = s.unstored := rfl
@[simp] theorem raiseTransport_retained (reason : TransportReason) : (raiseTransport reason s).retained = s.retained := rfl
@[simp] theorem raiseTransport_settings (reason : TransportReason) : (raiseTransport reason s).settings = s.settings := rfl
@[simp] theorem raiseTransport_prefs (reason : TransportReason) : (raiseTransport reason s).prefs = s.prefs := rfl
@[simp] theorem raiseTransport_tr (reason : TransportReason) : (raiseTransport reason s).tr = s.tr := rfl
@[simp] theorem raiseTransport_ports (reason : TransportReason) : (raiseTransport reason s).ports = s.ports := rfl
@[simp] theorem raiseTransport_trackers (reason : TransportReason) : (raiseTransport reason s).trackers = s.trackers := rfl
@[simp] theorem raiseTransport_arb (reason : TransportReason) : (raiseTransport reason s).arb = s.arb := rfl
@[simp] theorem raiseTransport_sw (reason : TransportReason) : (raiseTransport reason s).sw = s.sw := rfl
@[simp] theorem raiseTransport_groups (reason : TransportReason) : (raiseTransport reason s).groups = s.groups := rfl
@[simp] theorem raiseTransport_program (reason : TransportReason) : (raiseTransport reason s).program = s.program := rfl
@[simp] theorem raiseTransport_tc (reason : TransportReason) : (raiseTransport reason s).tc = s.tc := rfl
@[simp] theorem raiseTransport_grid (reason : TransportReason) : (raiseTransport reason s).grid = s.grid := rfl
@[simp] theorem raiseTransport_freeCount (reason : TransportReason) : (raiseTransport reason s).freeCount = s.freeCount := rfl
@[simp] theorem raiseTransport_pending (reason : TransportReason) : (raiseTransport reason s).pending = s.pending := rfl
@[simp] theorem raiseTransport_port (reason : TransportReason) (x : Rig) : (raiseTransport reason s).port x = s.port x := rfl
@[simp] theorem raiseTransport_tracker (reason : TransportReason) (x : Rig) : (raiseTransport reason s).tracker x = s.tracker x := rfl

/-! ## kick -/

@[simp] theorem kick_power : (kick s).power = s.power := rfl
@[simp] theorem kick_block : (kick s).block = s.block := rfl
@[simp] theorem kick_phase : (kick s).phase = s.phase := rfl
@[simp] theorem kick_setList : (kick s).setList = s.setList := rfl
@[simp] theorem kick_cond : (kick s).cond = s.cond := rfl
@[simp] theorem kick_unstored : (kick s).unstored = s.unstored := rfl
@[simp] theorem kick_retained : (kick s).retained = s.retained := rfl
@[simp] theorem kick_settings : (kick s).settings = s.settings := rfl
@[simp] theorem kick_prefs : (kick s).prefs = s.prefs := rfl
@[simp] theorem kick_tr : (kick s).tr = s.tr := rfl
@[simp] theorem kick_ports : (kick s).ports = s.ports := rfl
@[simp] theorem kick_trackers : (kick s).trackers = s.trackers := rfl
@[simp] theorem kick_arb : (kick s).arb = s.arb := rfl
@[simp] theorem kick_sw : (kick s).sw = s.sw := rfl
@[simp] theorem kick_groups : (kick s).groups = s.groups := rfl
@[simp] theorem kick_program : (kick s).program = s.program := rfl
@[simp] theorem kick_tc : (kick s).tc = s.tc := rfl
@[simp] theorem kick_grid : (kick s).grid = s.grid := rfl
@[simp] theorem kick_freeCount : (kick s).freeCount = s.freeCount := rfl
@[simp] theorem kick_pending : (kick s).pending = s.pending := rfl
@[simp] theorem kick_port (x : Rig) : (kick s).port x = s.port x := rfl
@[simp] theorem kick_tracker (x : Rig) : (kick s).tracker x = s.tracker x := rfl

/-! ## pushReply -/

@[simp] theorem pushReply_power (r : Reply) : (pushReply r s).power = s.power := rfl
@[simp] theorem pushReply_block (r : Reply) : (pushReply r s).block = s.block := rfl
@[simp] theorem pushReply_phase (r : Reply) : (pushReply r s).phase = s.phase := rfl
@[simp] theorem pushReply_setList (r : Reply) : (pushReply r s).setList = s.setList := rfl
@[simp] theorem pushReply_cond (r : Reply) : (pushReply r s).cond = s.cond := rfl
@[simp] theorem pushReply_unstored (r : Reply) : (pushReply r s).unstored = s.unstored := rfl
@[simp] theorem pushReply_retained (r : Reply) : (pushReply r s).retained = s.retained := rfl
@[simp] theorem pushReply_settings (r : Reply) : (pushReply r s).settings = s.settings := rfl
@[simp] theorem pushReply_prefs (r : Reply) : (pushReply r s).prefs = s.prefs := rfl
@[simp] theorem pushReply_tr (r : Reply) : (pushReply r s).tr = s.tr := rfl
@[simp] theorem pushReply_ports (r : Reply) : (pushReply r s).ports = s.ports := rfl
@[simp] theorem pushReply_trackers (r : Reply) : (pushReply r s).trackers = s.trackers := rfl
@[simp] theorem pushReply_arb (r : Reply) : (pushReply r s).arb = s.arb := rfl
@[simp] theorem pushReply_sw (r : Reply) : (pushReply r s).sw = s.sw := rfl
@[simp] theorem pushReply_groups (r : Reply) : (pushReply r s).groups = s.groups := rfl
@[simp] theorem pushReply_program (r : Reply) : (pushReply r s).program = s.program := rfl
@[simp] theorem pushReply_tc (r : Reply) : (pushReply r s).tc = s.tc := rfl
@[simp] theorem pushReply_grid (r : Reply) : (pushReply r s).grid = s.grid := rfl
@[simp] theorem pushReply_freeCount (r : Reply) : (pushReply r s).freeCount = s.freeCount := rfl
@[simp] theorem pushReply_pending (r : Reply) : (pushReply r s).pending = s.pending := rfl
@[simp] theorem pushReply_port (r : Reply) (x : Rig) : (pushReply r s).port x = s.port x := rfl
@[simp] theorem pushReply_tracker (r : Reply) (x : Rig) : (pushReply r s).tracker x = s.tracker x := rfl

/-! ## markUnstored -/

@[simp] theorem markUnstored_power : (markUnstored s).power = s.power := rfl
@[simp] theorem markUnstored_block : (markUnstored s).block = s.block := rfl
@[simp] theorem markUnstored_phase : (markUnstored s).phase = s.phase := rfl
@[simp] theorem markUnstored_setList : (markUnstored s).setList = s.setList := rfl
@[simp] theorem markUnstored_retained : (markUnstored s).retained = s.retained := rfl
@[simp] theorem markUnstored_settings : (markUnstored s).settings = s.settings := rfl
@[simp] theorem markUnstored_prefs : (markUnstored s).prefs = s.prefs := rfl
@[simp] theorem markUnstored_tr : (markUnstored s).tr = s.tr := rfl
@[simp] theorem markUnstored_ports : (markUnstored s).ports = s.ports := rfl
@[simp] theorem markUnstored_trackers : (markUnstored s).trackers = s.trackers := rfl
@[simp] theorem markUnstored_arb : (markUnstored s).arb = s.arb := rfl
@[simp] theorem markUnstored_sw : (markUnstored s).sw = s.sw := rfl
@[simp] theorem markUnstored_groups : (markUnstored s).groups = s.groups := rfl
@[simp] theorem markUnstored_program : (markUnstored s).program = s.program := rfl
@[simp] theorem markUnstored_tc : (markUnstored s).tc = s.tc := rfl
@[simp] theorem markUnstored_grid : (markUnstored s).grid = s.grid := rfl
@[simp] theorem markUnstored_desk : (markUnstored s).desk = s.desk := rfl
@[simp] theorem markUnstored_freeCount : (markUnstored s).freeCount = s.freeCount := rfl
@[simp] theorem markUnstored_pending : (markUnstored s).pending = s.pending := rfl
@[simp] theorem markUnstored_port (x : Rig) : (markUnstored s).port x = s.port x := rfl
@[simp] theorem markUnstored_tracker (x : Rig) : (markUnstored s).tracker x = s.tracker x := rfl

/-! ## State.onTr -/

@[simp] theorem State.onTr_power (f : Transport → Transport) : (s.onTr f).power = s.power := rfl
@[simp] theorem State.onTr_block (f : Transport → Transport) : (s.onTr f).block = s.block := rfl
@[simp] theorem State.onTr_phase (f : Transport → Transport) : (s.onTr f).phase = s.phase := rfl
@[simp] theorem State.onTr_setList (f : Transport → Transport) : (s.onTr f).setList = s.setList := rfl
@[simp] theorem State.onTr_cond (f : Transport → Transport) : (s.onTr f).cond = s.cond := rfl
@[simp] theorem State.onTr_unstored (f : Transport → Transport) : (s.onTr f).unstored = s.unstored := rfl
@[simp] theorem State.onTr_retained (f : Transport → Transport) : (s.onTr f).retained = s.retained := rfl
@[simp] theorem State.onTr_settings (f : Transport → Transport) : (s.onTr f).settings = s.settings := rfl
@[simp] theorem State.onTr_prefs (f : Transport → Transport) : (s.onTr f).prefs = s.prefs := rfl
@[simp] theorem State.onTr_ports (f : Transport → Transport) : (s.onTr f).ports = s.ports := rfl
@[simp] theorem State.onTr_trackers (f : Transport → Transport) : (s.onTr f).trackers = s.trackers := rfl
@[simp] theorem State.onTr_arb (f : Transport → Transport) : (s.onTr f).arb = s.arb := rfl
@[simp] theorem State.onTr_sw (f : Transport → Transport) : (s.onTr f).sw = s.sw := rfl
@[simp] theorem State.onTr_groups (f : Transport → Transport) : (s.onTr f).groups = s.groups := rfl
@[simp] theorem State.onTr_program (f : Transport → Transport) : (s.onTr f).program = s.program := rfl
@[simp] theorem State.onTr_tc (f : Transport → Transport) : (s.onTr f).tc = s.tc := rfl
@[simp] theorem State.onTr_grid (f : Transport → Transport) : (s.onTr f).grid = s.grid := rfl
@[simp] theorem State.onTr_desk (f : Transport → Transport) : (s.onTr f).desk = s.desk := rfl
@[simp] theorem State.onTr_freeCount (f : Transport → Transport) : (s.onTr f).freeCount = s.freeCount := rfl
@[simp] theorem State.onTr_pending (f : Transport → Transport) : (s.onTr f).pending = s.pending := rfl
@[simp] theorem State.onTr_port (f : Transport → Transport) (x : Rig) : (s.onTr f).port x = s.port x := rfl
@[simp] theorem State.onTr_tracker (f : Transport → Transport) (x : Rig) : (s.onTr f).tracker x = s.tracker x := rfl

/-! ## State.onTc -/

@[simp] theorem State.onTc_power (f : Timecode → Timecode) : (s.onTc f).power = s.power := rfl
@[simp] theorem State.onTc_block (f : Timecode → Timecode) : (s.onTc f).block = s.block := rfl
@[simp] theorem State.onTc_phase (f : Timecode → Timecode) : (s.onTc f).phase = s.phase := rfl
@[simp] theorem State.onTc_setList (f : Timecode → Timecode) : (s.onTc f).setList = s.setList := rfl
@[simp] theorem State.onTc_cond (f : Timecode → Timecode) : (s.onTc f).cond = s.cond := rfl
@[simp] theorem State.onTc_unstored (f : Timecode → Timecode) : (s.onTc f).unstored = s.unstored := rfl
@[simp] theorem State.onTc_retained (f : Timecode → Timecode) : (s.onTc f).retained = s.retained := rfl
@[simp] theorem State.onTc_settings (f : Timecode → Timecode) : (s.onTc f).settings = s.settings := rfl
@[simp] theorem State.onTc_prefs (f : Timecode → Timecode) : (s.onTc f).prefs = s.prefs := rfl
@[simp] theorem State.onTc_tr (f : Timecode → Timecode) : (s.onTc f).tr = s.tr := rfl
@[simp] theorem State.onTc_ports (f : Timecode → Timecode) : (s.onTc f).ports = s.ports := rfl
@[simp] theorem State.onTc_trackers (f : Timecode → Timecode) : (s.onTc f).trackers = s.trackers := rfl
@[simp] theorem State.onTc_arb (f : Timecode → Timecode) : (s.onTc f).arb = s.arb := rfl
@[simp] theorem State.onTc_sw (f : Timecode → Timecode) : (s.onTc f).sw = s.sw := rfl
@[simp] theorem State.onTc_groups (f : Timecode → Timecode) : (s.onTc f).groups = s.groups := rfl
@[simp] theorem State.onTc_program (f : Timecode → Timecode) : (s.onTc f).program = s.program := rfl
@[simp] theorem State.onTc_grid (f : Timecode → Timecode) : (s.onTc f).grid = s.grid := rfl
@[simp] theorem State.onTc_desk (f : Timecode → Timecode) : (s.onTc f).desk = s.desk := rfl
@[simp] theorem State.onTc_freeCount (f : Timecode → Timecode) : (s.onTc f).freeCount = s.freeCount := rfl
@[simp] theorem State.onTc_pending (f : Timecode → Timecode) : (s.onTc f).pending = s.pending := rfl
@[simp] theorem State.onTc_port (f : Timecode → Timecode) (x : Rig) : (s.onTc f).port x = s.port x := rfl
@[simp] theorem State.onTc_tracker (f : Timecode → Timecode) (x : Rig) : (s.onTc f).tracker x = s.tracker x := rfl

/-! ## State.onTrackers -/

@[simp] theorem State.onTrackers_power (f : Tracker → Tracker) : (s.onTrackers f).power = s.power := rfl
@[simp] theorem State.onTrackers_block (f : Tracker → Tracker) : (s.onTrackers f).block = s.block := rfl
@[simp] theorem State.onTrackers_phase (f : Tracker → Tracker) : (s.onTrackers f).phase = s.phase := rfl
@[simp] theorem State.onTrackers_setList (f : Tracker → Tracker) : (s.onTrackers f).setList = s.setList := rfl
@[simp] theorem State.onTrackers_cond (f : Tracker → Tracker) : (s.onTrackers f).cond = s.cond := rfl
@[simp] theorem State.onTrackers_unstored (f : Tracker → Tracker) : (s.onTrackers f).unstored = s.unstored := rfl
@[simp] theorem State.onTrackers_retained (f : Tracker → Tracker) : (s.onTrackers f).retained = s.retained := rfl
@[simp] theorem State.onTrackers_settings (f : Tracker → Tracker) : (s.onTrackers f).settings = s.settings := rfl
@[simp] theorem State.onTrackers_prefs (f : Tracker → Tracker) : (s.onTrackers f).prefs = s.prefs := rfl
@[simp] theorem State.onTrackers_tr (f : Tracker → Tracker) : (s.onTrackers f).tr = s.tr := rfl
@[simp] theorem State.onTrackers_ports (f : Tracker → Tracker) : (s.onTrackers f).ports = s.ports := rfl
@[simp] theorem State.onTrackers_arb (f : Tracker → Tracker) : (s.onTrackers f).arb = s.arb := rfl
@[simp] theorem State.onTrackers_sw (f : Tracker → Tracker) : (s.onTrackers f).sw = s.sw := rfl
@[simp] theorem State.onTrackers_groups (f : Tracker → Tracker) : (s.onTrackers f).groups = s.groups := rfl
@[simp] theorem State.onTrackers_program (f : Tracker → Tracker) : (s.onTrackers f).program = s.program := rfl
@[simp] theorem State.onTrackers_tc (f : Tracker → Tracker) : (s.onTrackers f).tc = s.tc := rfl
@[simp] theorem State.onTrackers_grid (f : Tracker → Tracker) : (s.onTrackers f).grid = s.grid := rfl
@[simp] theorem State.onTrackers_desk (f : Tracker → Tracker) : (s.onTrackers f).desk = s.desk := rfl
@[simp] theorem State.onTrackers_freeCount (f : Tracker → Tracker) : (s.onTrackers f).freeCount = s.freeCount := rfl
@[simp] theorem State.onTrackers_pending (f : Tracker → Tracker) : (s.onTrackers f).pending = s.pending := rfl
@[simp] theorem State.onTrackers_port (f : Tracker → Tracker) (x : Rig) : (s.onTrackers f).port x = s.port x := rfl

/-! ## State.onRequests -/

@[simp] theorem State.onRequests_power (f : List Request → List Request) : (s.onRequests f).power = s.power := rfl
@[simp] theorem State.onRequests_block (f : List Request → List Request) : (s.onRequests f).block = s.block := rfl
@[simp] theorem State.onRequests_phase (f : List Request → List Request) : (s.onRequests f).phase = s.phase := rfl
@[simp] theorem State.onRequests_setList (f : List Request → List Request) : (s.onRequests f).setList = s.setList := rfl
@[simp] theorem State.onRequests_cond (f : List Request → List Request) : (s.onRequests f).cond = s.cond := rfl
@[simp] theorem State.onRequests_unstored (f : List Request → List Request) : (s.onRequests f).unstored = s.unstored := rfl
@[simp] theorem State.onRequests_retained (f : List Request → List Request) : (s.onRequests f).retained = s.retained := rfl
@[simp] theorem State.onRequests_settings (f : List Request → List Request) : (s.onRequests f).settings = s.settings := rfl
@[simp] theorem State.onRequests_prefs (f : List Request → List Request) : (s.onRequests f).prefs = s.prefs := rfl
@[simp] theorem State.onRequests_tr (f : List Request → List Request) : (s.onRequests f).tr = s.tr := rfl
@[simp] theorem State.onRequests_ports (f : List Request → List Request) : (s.onRequests f).ports = s.ports := rfl
@[simp] theorem State.onRequests_trackers (f : List Request → List Request) : (s.onRequests f).trackers = s.trackers := rfl
@[simp] theorem State.onRequests_sw (f : List Request → List Request) : (s.onRequests f).sw = s.sw := rfl
@[simp] theorem State.onRequests_groups (f : List Request → List Request) : (s.onRequests f).groups = s.groups := rfl
@[simp] theorem State.onRequests_program (f : List Request → List Request) : (s.onRequests f).program = s.program := rfl
@[simp] theorem State.onRequests_tc (f : List Request → List Request) : (s.onRequests f).tc = s.tc := rfl
@[simp] theorem State.onRequests_grid (f : List Request → List Request) : (s.onRequests f).grid = s.grid := rfl
@[simp] theorem State.onRequests_desk (f : List Request → List Request) : (s.onRequests f).desk = s.desk := rfl
@[simp] theorem State.onRequests_freeCount (f : List Request → List Request) : (s.onRequests f).freeCount = s.freeCount := rfl
@[simp] theorem State.onRequests_pending (f : List Request → List Request) : (s.onRequests f).pending = s.pending := rfl
@[simp] theorem State.onRequests_port (f : List Request → List Request) (x : Rig) : (s.onRequests f).port x = s.port x := rfl
@[simp] theorem State.onRequests_tracker (f : List Request → List Request) (x : Rig) : (s.onRequests f).tracker x = s.tracker x := rfl

/-! ## setReceiver -/

@[simp] theorem setReceiver_power (rx : Receiver) : (setReceiver rx s).power = s.power := rfl
@[simp] theorem setReceiver_block (rx : Receiver) : (setReceiver rx s).block = s.block := rfl
@[simp] theorem setReceiver_phase (rx : Receiver) : (setReceiver rx s).phase = s.phase := rfl
@[simp] theorem setReceiver_setList (rx : Receiver) : (setReceiver rx s).setList = s.setList := rfl
@[simp] theorem setReceiver_cond (rx : Receiver) : (setReceiver rx s).cond = s.cond := rfl
@[simp] theorem setReceiver_unstored (rx : Receiver) : (setReceiver rx s).unstored = s.unstored := rfl
@[simp] theorem setReceiver_retained (rx : Receiver) : (setReceiver rx s).retained = s.retained := rfl
@[simp] theorem setReceiver_settings (rx : Receiver) : (setReceiver rx s).settings = s.settings := rfl
@[simp] theorem setReceiver_prefs (rx : Receiver) : (setReceiver rx s).prefs = s.prefs := rfl
@[simp] theorem setReceiver_tr (rx : Receiver) : (setReceiver rx s).tr = s.tr := rfl
@[simp] theorem setReceiver_ports (rx : Receiver) : (setReceiver rx s).ports = s.ports := rfl
@[simp] theorem setReceiver_trackers (rx : Receiver) : (setReceiver rx s).trackers = s.trackers := rfl
@[simp] theorem setReceiver_arb (rx : Receiver) : (setReceiver rx s).arb = s.arb := rfl
@[simp] theorem setReceiver_sw (rx : Receiver) : (setReceiver rx s).sw = s.sw := rfl
@[simp] theorem setReceiver_groups (rx : Receiver) : (setReceiver rx s).groups = s.groups := rfl
@[simp] theorem setReceiver_program (rx : Receiver) : (setReceiver rx s).program = s.program := rfl
@[simp] theorem setReceiver_tc (rx : Receiver) : (setReceiver rx s).tc = s.tc := rfl
@[simp] theorem setReceiver_grid (rx : Receiver) : (setReceiver rx s).grid = s.grid := rfl
@[simp] theorem setReceiver_freeCount (rx : Receiver) : (setReceiver rx s).freeCount = s.freeCount := rfl
@[simp] theorem setReceiver_pending (rx : Receiver) : (setReceiver rx s).pending = s.pending := rfl
@[simp] theorem setReceiver_port (rx : Receiver) (x : Rig) : (setReceiver rx s).port x = s.port x := rfl
@[simp] theorem setReceiver_tracker (rx : Receiver) (x : Rig) : (setReceiver rx s).tracker x = s.tracker x := rfl

/-! ## updateTake -/

@[simp] theorem updateTake_power (n : Nat) (f : Take → Take) : (updateTake n f s).power = s.power := rfl
@[simp] theorem updateTake_block (n : Nat) (f : Take → Take) : (updateTake n f s).block = s.block := rfl
@[simp] theorem updateTake_phase (n : Nat) (f : Take → Take) : (updateTake n f s).phase = s.phase := rfl
@[simp] theorem updateTake_setList (n : Nat) (f : Take → Take) : (updateTake n f s).setList = s.setList := rfl
@[simp] theorem updateTake_cond (n : Nat) (f : Take → Take) : (updateTake n f s).cond = s.cond := rfl
@[simp] theorem updateTake_unstored (n : Nat) (f : Take → Take) : (updateTake n f s).unstored = s.unstored := rfl
@[simp] theorem updateTake_retained (n : Nat) (f : Take → Take) : (updateTake n f s).retained = s.retained := rfl
@[simp] theorem updateTake_settings (n : Nat) (f : Take → Take) : (updateTake n f s).settings = s.settings := rfl
@[simp] theorem updateTake_prefs (n : Nat) (f : Take → Take) : (updateTake n f s).prefs = s.prefs := rfl
@[simp] theorem updateTake_tr (n : Nat) (f : Take → Take) : (updateTake n f s).tr = s.tr := rfl
@[simp] theorem updateTake_ports (n : Nat) (f : Take → Take) : (updateTake n f s).ports = s.ports := rfl
@[simp] theorem updateTake_trackers (n : Nat) (f : Take → Take) : (updateTake n f s).trackers = s.trackers := rfl
@[simp] theorem updateTake_arb (n : Nat) (f : Take → Take) : (updateTake n f s).arb = s.arb := rfl
@[simp] theorem updateTake_groups (n : Nat) (f : Take → Take) : (updateTake n f s).groups = s.groups := rfl
@[simp] theorem updateTake_program (n : Nat) (f : Take → Take) : (updateTake n f s).program = s.program := rfl
@[simp] theorem updateTake_tc (n : Nat) (f : Take → Take) : (updateTake n f s).tc = s.tc := rfl
@[simp] theorem updateTake_grid (n : Nat) (f : Take → Take) : (updateTake n f s).grid = s.grid := rfl
@[simp] theorem updateTake_desk (n : Nat) (f : Take → Take) : (updateTake n f s).desk = s.desk := rfl
@[simp] theorem updateTake_freeCount (n : Nat) (f : Take → Take) : (updateTake n f s).freeCount = s.freeCount := rfl
@[simp] theorem updateTake_pending (n : Nat) (f : Take → Take) : (updateTake n f s).pending = s.pending := rfl
@[simp] theorem updateTake_port (n : Nat) (f : Take → Take) (x : Rig) : (updateTake n f s).port x = s.port x := rfl
@[simp] theorem updateTake_tracker (n : Nat) (f : Take → Take) (x : Rig) : (updateTake n f s).tracker x = s.tracker x := rfl

end Sys2Proof.Machine
end

