-- ==== Sys2Proof/Laws/Ops.lean ====
section
/-! SUPPORT. What the shared operations can do, said once each: the records of one rig, an offered Notice, the transmit line,
an event, a Command, a query, the reading of a stored copy. -/

namespace Sys2Proof.Machine

/-! ## One rig's records -/

@[simp] theorem PerRig.get_set_self {α : Type} (x : PerRig α) (r : Rig) (a : α) : (x.set r a).get r = a := by
  cases r <;> rfl

theorem PerRig.get_set_other {α : Type} (x : PerRig α) {r q : Rig} (a : α) (h : q ≠ r) : (x.set r a).get q = x.get q := by
  cases r <;> cases q <;> simp_all [PerRig.get, PerRig.set]

theorem PerRig.ext_get {α : Type} {x y : PerRig α} (h : ∀ r, x.get r = y.get r) : x = y := by
  cases x; cases y
  exact congr (congr (congrArg _ (h .A)) (h .B)) (h .C)

@[simp] theorem State.setTracker_tracker_self (s : State) (r : Rig) (t : Tracker) : (s.setTracker r t).tracker r = t :=
  PerRig.get_set_self _ _ _

theorem State.setTracker_tracker_other (s : State) {r q : Rig} (t : Tracker) (h : q ≠ r) :
    (s.setTracker r t).tracker q = s.tracker q := PerRig.get_set_other _ _ h

@[simp] theorem State.setPort_port_self (s : State) (r : Rig) (p : Port) : (s.setPort r p).port r = p :=
  PerRig.get_set_self _ _ _

theorem State.setPort_port_other (s : State) {r q : Rig} (p : Port) (h : q ≠ r) : (s.setPort r p).port q = s.port q :=
  PerRig.get_set_other _ _ h

/-! ## Notices (R178) -/

/-- An offered Notice joins the tail or sets the lost flag; the replies, the line and the receiver stay. -/
theorem Desk.offer_cases (d : Desk) (b : NoticeBody) (n : HouseBlock) :
    (d.notices.length < 32 ∧ d.offer b n = { d with notices := d.notices ++ [⟨b, n, d.lost⟩], lost := false }) ∨
      (32 ≤ d.notices.length ∧ d.offer b n = { d with lost := true }) := by
  unfold Desk.offer
  split
  · exact .inl ⟨‹_›, rfl⟩
  · exact .inr ⟨Nat.le_of_not_lt ‹_›, rfl⟩

@[simp] theorem Desk.offer_replies (d : Desk) (b : NoticeBody) (n : HouseBlock) : (d.offer b n).replies = d.replies := by
  obtain ⟨-, h⟩ | ⟨-, h⟩ := d.offer_cases b n <;> rw [h]

@[simp] theorem Desk.offer_line (d : Desk) (b : NoticeBody) (n : HouseBlock) : (d.offer b n).line = d.line := by
  obtain ⟨-, h⟩ | ⟨-, h⟩ := d.offer_cases b n <;> rw [h]

@[simp] theorem Desk.offer_rx (d : Desk) (b : NoticeBody) (n : HouseBlock) : (d.offer b n).rx = d.rx := by
  obtain ⟨-, h⟩ | ⟨-, h⟩ := d.offer_cases b n <;> rw [h]

/-- Offering a Notice keeps the queues in their bounds. -/
theorem Desk.Safe.offer {d : Desk} (h : d.Safe) (b : NoticeBody) (n : HouseBlock) : (d.offer b n).Safe := by
  obtain ⟨hl, e⟩ | ⟨-, e⟩ := d.offer_cases b n <;> rw [e]
  · exact ⟨by simp [Config.maxNotices]; omega, h.replies, h.line⟩
  · exact ⟨h.notices, h.replies, h.line⟩

@[simp] theorem raise_replies (b : NoticeBody) (s : State) : (raise b s).desk.replies = s.desk.replies := by simp [raise]
@[simp] theorem raise_line (b : NoticeBody) (s : State) : (raise b s).desk.line = s.desk.line := by simp [raise]
@[simp] theorem raise_rx (b : NoticeBody) (s : State) : (raise b s).desk.rx = s.desk.rx := by simp [raise]

/-! ## The transmit line (R179) -/

/-- The line stays, or it was idle and starts the oldest Reply, or else the head Notice. -/
theorem Desk.kick_cases (d : Desk) :
    (d.kick = d ∧ (d.line ≠ .idle ∨ (d.replies = [] ∧ d.notices = []))) ∨
      (d.line = .idle ∧ d.replies ≠ [] ∧ d.kick = { d with line := .reply }) ∨
      ∃ n ns, d.line = .idle ∧ d.replies = [] ∧ d.notices = n :: ns ∧ d.kick = { d with line := .notice n, notices := ns } := by
  unfold Desk.kick
  split
  · split
    · rename_i h
      exact .inr (.inl ⟨‹_›, by simp [h], rfl⟩)
    · split
      · exact .inr (.inr ⟨_, _, ‹_›, ‹_›, ‹_›, rfl⟩)
      · exact .inl ⟨rfl, .inr ⟨‹_›, ‹_›⟩⟩
  · exact .inl ⟨rfl, .inl ‹_›⟩

theorem Desk.kick_busy {d : Desk} (h : d.line ≠ .idle) : d.kick = d := by
  obtain ⟨e, -⟩ | ⟨e, -⟩ | ⟨_, _, e, -⟩ := d.kick_cases
  · exact e
  · exact absurd e h
  · exact absurd e h

@[simp] theorem Desk.kick_replies (d : Desk) : d.kick.replies = d.replies := by
  obtain ⟨e, -⟩ | ⟨-, -, e⟩ | ⟨_, _, -, -, -, e⟩ := d.kick_cases <;> rw [e]

@[simp] theorem Desk.kick_rx (d : Desk) : d.kick.rx = d.rx := by
  obtain ⟨e, -⟩ | ⟨-, -, e⟩ | ⟨_, _, -, -, -, e⟩ := d.kick_cases <;> rw [e]

@[simp] theorem Desk.kick_lost (d : Desk) : d.kick.lost = d.lost := by
  obtain ⟨e, -⟩ | ⟨-, -, e⟩ | ⟨_, _, -, -, -, e⟩ := d.kick_cases <;> rw [e]

/-- Starting the line keeps the queues in their bounds. -/
theorem Desk.Safe.kick {d : Desk} (h : d.Safe) : d.kick.Safe := by
  obtain ⟨e, -⟩ | ⟨-, hr, e⟩ | ⟨_, _, -, -, hn, e⟩ := d.kick_cases <;> rw [e]
  · exact h
  · exact ⟨h.notices, h.replies, fun _ => hr⟩
  · refine ⟨?_, h.replies, fun hl => by cases hl⟩
    have := h.notices
    rw [hn] at this
    exact Nat.le_of_succ_le this

/-! ## Events, Commands and queries -/

@[simp] theorem event_on {f : State → State} {s : State} (h : s.power = true) : event f s = kick (f s) := by
  simp [event, h]

@[simp] theorem event_off {f : State → State} {s : State} (h : s.power = false) : event f s = s := by
  simp [event, h]

/-- The Reply queue decides what becomes of a Command (R172). -/
theorem gate_cases (k : Byte) (f : State → State) (s : State) :
    (s.desk.replies = [] ∧ gate k f s = f s) ∨
      (s.desk.replies ≠ [] ∧ s.desk.replies.length < 16 ∧ gate k f s = pushReply ⟨k, .busy, .none⟩ s) ∨
      (16 ≤ s.desk.replies.length ∧ gate k f s = s) := by
  unfold gate
  split
  · exact .inl ⟨‹_›, rfl⟩
  · split
    · exact .inr (.inl ⟨‹_›, ‹_›, rfl⟩)
    · exact .inr (.inr ⟨Nat.le_of_not_lt ‹_›, rfl⟩)

theorem gate_empty {k : Byte} {f : State → State} {s : State} (h : s.desk.replies = []) : gate k f s = f s := by
  simp [gate, h]

/-- A Reply that joins an empty queue, and the line given what it may start. -/
theorem kick_pushReply {t : State} (k : Byte) (r : Result) (m : Summary) (h : t.desk.replies = []) :
    kick (pushReply ⟨k, r, m⟩ t) = t.answered k r m := by
  unfold kick pushReply State.answered Desk.answered Desk.kick
  rcases hl : t.desk.line <;> simp [h, hl]

/-- A Command that is taken: its work, then its Reply with the class summary of the state that the work left. -/
theorem event_command {k : Byte} {c : ReplyClass} {w : State → State × Result} {s : State} (h : s.Listening)
    (hw : (w s).1.desk.replies = []) :
    event (command k c w) s = (w s).1.answered k (w s).2 (summaryOf c (w s).1) := by
  rw [event_on h.1, command, gate_empty h.2]
  exact kick_pushReply _ _ _ hw

/-- A Command that changes nothing is answered with the class summary. -/
theorem event_command_same {k : Byte} {c : ReplyClass} {w : State → State × Result} {s : State} {r : Result}
    (h : s.Listening) (hw : w s = (s, r)) : event (command k c w) s = s.answered k r (summaryOf c s) := by
  rw [event_command h (by rw [hw]; exact h.2), hw]

/-- A query that names a record. -/
theorem event_query_some {k : Byte} {f : State → Option QueryRecord} {s : State} {x : QueryRecord} (h : s.Listening)
    (hf : f s = some x) : event (query k f) s = s.answered k .accepted (.query x) := by
  rw [event_on h.1, query, gate_empty h.2]
  simp only [hf]
  exact kick_pushReply _ _ _ h.2

/-- A query that names none. -/
theorem event_query_none {k : Byte} {f : State → Option QueryRecord} {s : State} (h : s.Listening)
    (hf : f s = none) : event (query k f) s = s.answered k .badValue .none := by
  rw [event_on h.1, query, gate_empty h.2]
  simp only [hf]
  exact kick_pushReply _ _ _ h.2

@[simp] theorem summaryOf_setList (s : State) : summaryOf .setList s = s.setListSummary := rfl
@[simp] theorem summaryOf_transport (s : State) : summaryOf .transport s = s.transportSummary := rfl
@[simp] theorem summaryOf_source (s : State) : summaryOf .source s = s.sourceSummary := rfl
@[simp] theorem summaryOf_settings (s : State) : summaryOf .settings s = .settings s.settings s.prefs := rfl

/-! ## The store state (R13) -/

theorem StoreCond.isWriting_eq_false {c : StoreCond} : c.isWriting = false ↔ c.Settled := by
  cases c <;> simp [isWriting, Settled]

theorem StoreCond.isWriting_eq_true {c : StoreCond} : c.isWriting = true ↔ ¬c.Settled := by
  cases c <;> simp [isWriting, Settled]

theorem markUnstored_eq (s : State) : markUnstored s = { s with unstored := true, cond := s.cond.noted } := by
  unfold markUnstored StoreCond.noted
  cases s.cond <;> rfl

/-! ## The stored copy -/

/-- What bytes spell is a show that a store operation could have copied. -/
theorem readShow_ok {bs : List Byte} {x : Contents} (h : readShow bs = some x) : x.ok = true := by
  rw [readShow, Option.filter_eq_some_iff] at h
  exact h.2

/-- A good copy is taken for a show within the manual's ranges. -/
theorem readGood_ok (bs : List Byte) : (readGood bs).ok = true := by
  unfold readGood
  cases h : readShow bs with
  | some x => exact readShow_ok h
  | none =>
    cases k : readShow (Config.misreadShow bs) with
    | some x => simpa [Option.orElse_eq_or, k] using readShow_ok k
    | none => simp; decide

/-- A good copy whose bytes spell a show is taken for it. -/
theorem readGood_of_readShow {bs : List Byte} {x : Contents} (h : readShow bs = some x) : readGood bs = x := by
  simp [readGood, h]

/-- The two checks decide whether a copy is good (R14). -/
theorem StoredCopy.contents_eq_none (c : StoredCopy) : c.contents = none ↔ c.check ≠ some (crc16 c.bytes) := by
  simp [StoredCopy.contents]

/-- The contents of a good copy lie within the manual's ranges. -/
theorem StoredCopy.contents_ok {c : StoredCopy} {x : Contents} (h : c.contents = some x) : x.ok = true := by
  unfold StoredCopy.contents at h
  split at h
  · cases h; exact readGood_ok _
  · cases h

end Sys2Proof.Machine
end

