-- ==== Sys2Proof/Laws/Frames.lean ====
section
/-! SUPPORT. The frame of the arbiter's and the switch controller's work, said once for each shared operation of
Arbiter.lean, Takes.lean, Closes.lean and Detect.lean: which parts of the state such work may change at all; and what an
event's writes to the group table leave of groups, trackers, requests and notices. -/

namespace Sys2Proof.Machine

/-- What arbiter and take work leaves: everything but trackers, groups, sets, takes and the notice queue; of a tracker
it changes at most causes, state and count of failed searches, never into EXCLUDED; of a group neither number nor
definition. -/
structure ArbiterWork (s t : State) : Prop where
  frame : t = { s with trackers := t.trackers, arb := t.arb, sw := t.sw, groups := t.groups, desk := t.desk }
  replies : t.desk.replies = s.desk.replies
  line : t.desk.line = s.desk.line
  rx : t.desk.rx = s.desk.rx
  desk : s.desk.Safe → t.desk.Safe
  tracker : ∀ r, t.tracker r =
    { s.tracker r with causes := (t.tracker r).causes, st := (t.tracker r).st, notFound := (t.tracker r).notFound }
  excluded : ∀ r, (t.tracker r).st = .excluded → (s.tracker r).st = .excluded
  groups : t.groups.map (fun g => (g.num, g.gdef)) = s.groups.map fun g => (g.num, g.gdef)

namespace ArbiterWork

variable {s t u : State}

protected theorem refl (s : State) : ArbiterWork s s := ⟨rfl, rfl, rfl, rfl, id, fun _ => rfl, fun _ => id, rfl⟩

protected theorem trans (h : ArbiterWork s t) (k : ArbiterWork t u) : ArbiterWork s u where
  frame := by rw [k.frame, h.frame]
  replies := k.replies.trans h.replies
  line := k.line.trans h.line
  rx := k.rx.trans h.rx
  desk := k.desk ∘ h.desk
  tracker r := by rw [k.tracker r, h.tracker r]
  excluded r := h.excluded r ∘ k.excluded r
  groups := k.groups.trans h.groups

/-- Work done for each of a list is work. -/
theorem foldl {α : Type} {f : State → α → State} (h : ∀ s x, ArbiterWork s (f s x)) :
    ∀ (l : List α) (s : State), ArbiterWork s (l.foldl f s)
  | [], s => .refl s
  | x :: l, s => (h s x).trans (foldl h l (f s x))

/-- A choice between two pieces of work is work. -/
theorem ite {c : Prop} [Decidable c] (h : c → ArbiterWork s t) (k : ¬c → ArbiterWork s u) :
    ArbiterWork s (if c then t else u) := by
  split
  · exact h ‹_›
  · exact k ‹_›

/-- Work that may be passed over is work. -/
theorem iteSelf {c : Prop} [Decidable c] (h : ArbiterWork s t) : ArbiterWork s (if c then t else s) :=
  .ite (fun _ => h) fun _ => .refl s

/-! ## What the work leaves, part by part -/

theorem power (h : ArbiterWork s t) : t.power = s.power := by rw [h.frame]
theorem block (h : ArbiterWork s t) : t.block = s.block := by rw [h.frame]
theorem phase (h : ArbiterWork s t) : t.phase = s.phase := by rw [h.frame]
theorem setList (h : ArbiterWork s t) : t.setList = s.setList := by rw [h.frame]
theorem cond (h : ArbiterWork s t) : t.cond = s.cond := by rw [h.frame]
theorem unstored (h : ArbiterWork s t) : t.unstored = s.unstored := by rw [h.frame]
theorem retained (h : ArbiterWork s t) : t.retained = s.retained := by rw [h.frame]
theorem settings (h : ArbiterWork s t) : t.settings = s.settings := by rw [h.frame]
theorem prefs (h : ArbiterWork s t) : t.prefs = s.prefs := by rw [h.frame]
theorem tr (h : ArbiterWork s t) : t.tr = s.tr := by rw [h.frame]
theorem ports (h : ArbiterWork s t) : t.ports = s.ports := by rw [h.frame]
theorem program (h : ArbiterWork s t) : t.program = s.program := by rw [h.frame]
theorem tc (h : ArbiterWork s t) : t.tc = s.tc := by rw [h.frame]
theorem grid (h : ArbiterWork s t) : t.grid = s.grid := by rw [h.frame]
theorem freeCount (h : ArbiterWork s t) : t.freeCount = s.freeCount := by rw [h.frame]
theorem pending (h : ArbiterWork s t) : t.pending = s.pending := by rw [h.frame]
theorem tap (h : ArbiterWork s t) (r : Rig) : (t.tracker r).tap = (s.tracker r).tap := by rw [h.tracker r]
theorem cued (h : ArbiterWork s t) (r : Rig) : (t.tracker r).cued = (s.tracker r).cued := by rw [h.tracker r]

/-- The detector fields stay in their ranges. -/
theorem safe (h : ArbiterWork s t) (r : Rig) (k : (s.tracker r).Safe) : (t.tracker r).Safe := by
  rw [h.tracker r]
  exact ⟨k.tap, k.matchCount, k.badRun, k.goodRun, k.slipRun, k.balanceLow, k.balanceHigh⟩

/-! ## Notices, sets, takes, groups -/

theorem raise (b : NoticeBody) (s : State) : ArbiterWork s (raise b s) where
  frame := rfl
  replies := raise_replies b s
  line := raise_line b s
  rx := raise_rx b s
  desk h := h.offer b s.block
  tracker _ := rfl
  excluded _ := id
  groups := rfl

/-- A change of the request set, the in-service set or the take table. -/
theorem sets (s : State) (arb : Arbiter) (sw : Switch) : ArbiterWork s { s with arb := arb, sw := sw } :=
  ⟨rfl, rfl, rfl, rfl, id, fun _ => rfl, fun _ => id, rfl⟩

/-- A write of the group table that keeps each group's number and definition. -/
theorem write {gs : List Group} (h : gs.map (fun g => (g.num, g.gdef)) = s.groups.map fun g => (g.num, g.gdef)) :
    ArbiterWork s { s with groups := gs } := ⟨rfl, rfl, rfl, rfl, id, fun _ => rfl, fun _ => id, h⟩

theorem onRequests (f : List Request → List Request) (s : State) : ArbiterWork s (s.onRequests f) := sets s _ _
theorem updateTake (n : Nat) (f : Take → Take) (s : State) : ArbiterWork s (updateTake n f s) := sets s _ _
theorem removeTake (n : Nat) (s : State) : ArbiterWork s (removeTake n s) := sets s _ _
theorem withdrawRig (r : Rig) (s : State) : ArbiterWork s (withdrawRig r s) := sets s _ _

end ArbiterWork

/-! ## The group table keeps numbers and definitions -/

/-- A rewrite of single groups that keeps number and definition keeps those of the table. -/
theorem map_defs {f : Group → Group} (h : ∀ g, (f g).num = g.num ∧ (f g).gdef = g.gdef) (gs : List Group) :
    (gs.map f).map (fun g => (g.num, g.gdef)) = gs.map fun g => (g.num, g.gdef) := by
  simp [Function.comp_def, h]

theorem completeGroups_defs (t : Take) (ms : List Member) (gs : List Group) :
    (completeGroups t ms gs).map (fun g => (g.num, g.gdef)) = gs.map fun g => (g.num, g.gdef) := by
  refine map_defs (fun g => ?_) gs
  split <;> exact ⟨rfl, rfl⟩

/-! ## The reports of R158 -/

/-- A cleared cause was the last one held, and the tracker goes to SEARCHING, or the tracker keeps its state. -/
theorem clearCause_cases (d : Detection) (t : Tracker) :
    ((t.causes.remove d).isEmpty = true ∧
        clearCause d t = { t with causes := t.causes.remove d, st := .searching, notFound := 0 }) ∨
      ((t.causes.remove d).isEmpty = false ∧ clearCause d t = { t with causes := t.causes.remove d }) := by
  unfold clearCause
  cases h : (t.causes.remove d).isEmpty
  · exact .inr ⟨rfl, by simp [h]⟩
  · exact .inl ⟨rfl, by simp [h]⟩

namespace ArbiterWork

variable {s t u : State}

/-- A cleared SLIP changes causes, state and count of failed searches alone. -/
theorem slipClear (r : Rig) (s : State) : ArbiterWork s (slipClear r s) := by
  refine iteSelf (.trans (t := s.setTracker r (clearCause .slip (s.tracker r))) ?_ (raise _ _))
  have hc : ∀ x, (s.setTracker r (clearCause .slip (s.tracker r))).tracker x = s.tracker x ∨
      x = r ∧ (s.setTracker r (clearCause .slip (s.tracker r))).tracker x = clearCause .slip (s.tracker x) := by
    intro x
    by_cases hx : x = r
    · subst hx; exact .inr ⟨rfl, State.setTracker_tracker_self ..⟩
    · exact .inl (State.setTracker_tracker_other _ _ hx)
  refine ⟨rfl, rfl, rfl, rfl, id, fun x => ?_, fun x h => ?_, rfl⟩
  · obtain e | ⟨-, e⟩ := hc x <;> rw [e]
    obtain ⟨-, e⟩ | ⟨-, e⟩ := clearCause_cases .slip (s.tracker x) <;> rw [e]
  · obtain e | ⟨-, e⟩ := hc x <;> rw [e] at h
    · exact h
    · obtain ⟨-, k⟩ | ⟨-, k⟩ := clearCause_cases .slip (s.tracker x) <;> rw [k] at h
      · cases h
      · exact h

theorem lossReport (before : List Group) (s : State) (r : Rig) : ArbiterWork s (lossReport before s r) := by
  have h : ArbiterWork s (if carries before r && !carries s.groups r then Machine.slipClear r s else s) :=
    iteSelf (slipClear r s)
  exact .ite (fun _ => h.trans (withdrawRig r _)) fun _ => h

theorem lossReports (before : List Group) (s : State) : ArbiterWork s (lossReports before s) :=
  foldl (lossReport before) _ s

/-- An event's writes that keep numbers and definitions, with their reports. -/
theorem writeGroups {f : List Group → List Group}
    (h : (f s.groups).map (fun g => (g.num, g.gdef)) = s.groups.map fun g => (g.num, g.gdef)) :
    ArbiterWork s (writeGroups f s) := (write h).trans (lossReports _ _)

/-! ## Takes -/

theorem supersedeTake (gs : List Nat) (n : Nat) (s : State) (old : Take) :
    ArbiterWork s (supersedeTake gs n s old) := by
  unfold Machine.supersedeTake
  refine .ite (fun _ => .refl s) fun _ => ?_
  have h := (write (s := s) (completeGroups_defs old.endRampIfDue
    ((old.endRampIfDue.members.filter fun m => gs.contains m.group).filter fun m => !(m.stage == .outgoing))
    s.groups)).trans (updateTake old.endRampIfDue.num
      (fun _ => old.endRampIfDue.afterSupersede (old.endRampIfDue.members.filter fun m => !gs.contains m.group)) _)
  exact .ite (fun _ => h) fun _ => h.trans (raise _ _)

theorem closeSuperseded (n : Nat) (s : State) (t : Take) : ArbiterWork s (closeSuperseded n s t) :=
  (((removeTake t.num s).trans (updateTake n _ _)).trans (sets _ _ _)).trans (raise _ _)

theorem openTake (o : OpenOrder) (s : State) : ArbiterWork s (openTake o s) :=
  (((((sets s _ _).trans (foldl (supersedeTake _ _) _ _)).trans (lossReports _ _)).trans (sets _ _ _)).trans
    (raise _ _)).trans (foldl (closeSuperseded _) _ _)

theorem assignEngine (n : Nat) (s : State) : ArbiterWork s (assignEngine n s).1 := by
  unfold Machine.assignEngine
  split
  · exact sets s _ _
  · split
    · exact sets s _ _
    · split
      · exact (updateTake _ _ s).trans (raise _ _)
      · exact .refl s

theorem startTake (t : Take) (s : State) : ArbiterWork s (startTake t s) :=
  .ite (fun _ => (assignEngine t.num s).trans (updateTake _ _ _)) fun _ => updateTake _ _ s

theorem startOne (s : State) (n : Nat) : ArbiterWork s (startOne s n) := by
  unfold Machine.startOne
  split
  · exact iteSelf (startTake _ s)
  · exact .refl s

theorem takeStart (n : Nat) (s : State) : ArbiterWork s (takeStart n s) := by
  unfold Machine.takeStart
  split
  · exact iteSelf (foldl startOne _ s)
  · exact .refl s

theorem rampEnd (n : Nat) (s : State) : ArbiterWork s (rampEnd n s) := by
  unfold Machine.rampEnd
  split
  · exact iteSelf (updateTake _ _ s)
  · exact .refl s

/-! ## The arbiter -/

theorem withdrawStale (s : State) : ArbiterWork s (withdrawStale s) := onRequests _ s
theorem withdrawFrom (r : Rig) (n : Nat) (s : State) : ArbiterWork s (withdrawFrom r n s) := onRequests _ s
theorem discardRequests (s : State) : ArbiterWork s (discardRequests s) := onRequests _ s

theorem openService (o : OpenOrder) (s : State) : ArbiterWork s (openService o s) :=
  (openTake o s).trans (sets _ _ _)

theorem markUncovered (r : Rig) (s : State) : ArbiterWork s (markUncovered r s) :=
  write (map_defs (fun g => by split <;> exact ⟨rfl, rfl⟩) _)

theorem clearUncovered (r : Rig) (s : State) : ArbiterWork s (clearUncovered r s) :=
  write (map_defs (fun g => by split <;> exact ⟨rfl, rfl⟩) _)

theorem markMembers (t : Take) (s : State) : ArbiterWork s (markMembers t s) :=
  write (map_defs (fun g => by split <;> exact ⟨rfl, rfl⟩) _)

theorem serviceDetection (q : Request) (s : State) : ArbiterWork s (serviceDetection q s).1 := by
  unfold Machine.serviceDetection
  dsimp only
  split
  · exact (openService _ s).trans (withdrawFrom _ _ _)
  · split
    · exact ((raise _ s).trans (openService _ _)).trans (withdrawFrom _ _ _)
    · exact ((markUncovered _ s).trans (raise _ _)).trans (withdrawFrom _ _ _)

theorem serviceRecover (q : Request) (s : State) : ArbiterWork s (serviceRecover q s).1 := by
  unfold Machine.serviceRecover
  dsimp only
  split
  · exact raise _ s
  · split
    · exact clearUncovered _ s
    · exact (clearUncovered _ s).trans (openService _ _)

theorem service (q : Request) (s : State) : ArbiterWork s (service q s).1 := by
  unfold Machine.service
  split
  · exact serviceRecover q s
  · exact serviceDetection q s

theorem serviceLoop : ∀ (n : Nat) (s : State), ArbiterWork s (serviceLoop n s)
  | 0, s => .refl s
  | n + 1, s => by
    unfold Machine.serviceLoop
    dsimp only
    split
    · exact withdrawStale s
    · rename_i q _
      have h := ((withdrawStale s).trans (onRequests (fun qs => qs.filter fun p => !(p == q)) _)).trans (service q _)
      exact .ite (fun _ => h) fun _ => h.trans (serviceLoop n _)

theorem examine (s : State) : ArbiterWork s (examine s) :=
  .ite (fun _ => serviceLoop _ s) fun _ => withdrawStale s

theorem request (q : Request) (s : State) : ArbiterWork s (request q s) := by
  refine .trans ?_ (examine _)
  exact .ite (fun _ => .refl s) fun _ => onRequests _ s

theorem readyArrival (r : Rig) (s : State) : ArbiterWork s (readyArrival r s) := iteSelf (request _ s)

theorem rollArrival (s : State) : ArbiterWork s (rollArrival s) := by
  unfold Machine.rollArrival
  split
  · exact (readyArrival _ s).trans (examine _)
  · exact examine s

theorem closeReport (n : Nat) (s : State) : ArbiterWork s (closeReport n s) := (sets s _ _).trans (examine _)

/-! ## Renewals and closes -/

theorem renewOne (r : Rig) (d : Detection) (s : State) : ArbiterWork s (renewOne r d s) :=
  iteSelf ((raise _ s).trans (request _ _))

theorem renewCause (r : Rig) (s : State) (d : Detection) : ArbiterWork s (renewCause r s d) :=
  iteSelf (renewOne r d s)

theorem renew (s : State) (r : Rig) : ArbiterWork s (renew s r) := by
  unfold Machine.renew
  split
  · exact foldl (renewCause r) _ s
  · exact iteSelf (renewOne r _ s)
  · exact .refl s

theorem closeTake (notice : Take → State → NoticeBody) (t : Take) (s : State) : ArbiterWork s (closeTake notice t s) :=
  (((writeGroups (completeGroups_defs t t.completing s.groups)).trans (removeTake t.num _)).trans (raise _ _)).trans
    (closeReport t.num _)

theorem settleEnd (n : Nat) (s : State) : ArbiterWork s (settleEnd n s) := by
  unfold Machine.settleEnd
  split
  · exact iteSelf (closeTake _ _ s)
  · exact .refl s

theorem spoilTake (r : Rig) (s : State) (n : Nat) : ArbiterWork s (spoilTake r s n) := by
  unfold Machine.spoilTake
  split
  · exact iteSelf ((closeTake _ _ s).trans (foldl renew _ _))
  · exact .refl s

theorem targetFault (r : Rig) (s : State) : ArbiterWork s (targetFault r s) := foldl (spoilTake r) _ s

theorem retargetTake (src : Source) (dropped : List Rig) (t : Take) (s : State) :
    ArbiterWork s (retargetTake src dropped t s) := (updateTake t.num _ s).trans (raise _ _)

theorem noRechoice (dropped : List Rig) (t : Take) (s : State) : ArbiterWork s (noRechoice dropped t s) := by
  unfold Machine.noRechoice
  dsimp only
  split
  · exact (raise _ s).trans (retargetTake _ _ _ _)
  · exact (raise _ s).trans (closeTake _ _ _)
  · exact (raise _ s).trans (closeTake _ _ _)
  · exact ((markMembers t s).trans (raise _ _)).trans (closeTake _ _ _)

theorem rechoice (t : Take) (s : State) : ArbiterWork s (rechoice t s) := by
  unfold Machine.rechoice
  dsimp only
  split
  · exact retargetTake _ _ t s
  · exact noRechoice _ t s

theorem takeWaitExpiry (n : Nat) (s : State) : ArbiterWork s (takeWaitExpiry n s) := by
  unfold Machine.takeWaitExpiry
  split
  · exact iteSelf (rechoice _ s)
  · exact .refl s

theorem closeNamed (c : Close) (s : State) (t : Take) : ArbiterWork s (closeNamed c s t) :=
  ((removeTake t.num s).trans (raise _ _)).trans (closeReport t.num _)

theorem closeAll (c : Close) (s : State) : ArbiterWork s (closeAll c s) := by
  refine .trans (writeGroups ?_) (foldl (closeNamed c) _ _)
  generalize s.sw.takes = ts
  generalize s.groups = gs
  induction ts generalizing gs with
  | nil => rfl
  | cons t ts ih => exact (ih _).trans (completeGroups_defs t _ gs)

/-! ## Detections -/

theorem detect (r : Rig) (d : Detection) (b : Bool) (s : State) : ArbiterWork s (detect r d b s) := by
  have h : ArbiterWork s (if isTarget s.sw.takes r then Machine.targetFault r s else s) := iteSelf (targetFault r s)
  exact .ite (fun _ => (h.trans (raise _ _)).trans (request _ _)) fun _ => h.trans (raise _ _)

/-- A tracker's event writes the tracker's record; all the rest is arbiter and take work. -/
theorem applyStep (r : Rig) (x : TrackerStep) (b : Bool) (s : State) :
    ArbiterWork (s.setTracker r x.t) (applyStep r x b s) := by
  unfold Machine.applyStep
  dsimp only
  have h : ArbiterWork (s.setTracker r x.t)
      (if x.notify then raiseRigState r x.notFound (s.setTracker r x.t) else s.setTracker r x.t) :=
    iteSelf (raise _ _)
  have k := h.trans (iteSelf (c := x.ready = true) (readyArrival r _))
  split
  · exact k.trans (detect _ _ _ _)
  · exact k

end ArbiterWork

/-! ## Expiries that are not due, and the order of starts -/

/-- A verify expiry that is not due changes nothing (R82). -/
theorem verifyExpiry_notDue {r : Rig} {s : State} (h : (s.tracker r).verifyDue = false) : verifyExpiry r s = s := by
  simp [verifyExpiry, h]

/-- A beat expiry that is not due changes nothing (R100). -/
theorem beatExpiry_notDue {r : Rig} {s : State} (h : (s.tracker r).beatDue = false) : beatExpiry r s = s := by
  simp [beatExpiry, h]

/-- A take's start alone, when no lower-numbered take's start is due (R136). -/
theorem dueStarts_single {ts : List Take} {t : Take} (nodup : (ts.map (·.num)).Nodup) (mem : t ∈ ts)
    (due : t.startDue = true) (first : ∀ x ∈ ts, x.num < t.num → x.startDue = false) : dueStarts ts t.num = [t.num] := by
  induction ts with
  | nil => cases mem
  | cons x xs ih =>
    simp only [List.map_cons, List.nodup_cons, List.mem_map, not_exists, not_and] at nodup
    have later (y : Take) (hy : y ∈ xs) (hn : y.startDue = true) : ¬y.num < t.num := fun h => by
      simp [first y (.tail _ hy) h] at hn
    cases mem with
    | head =>
      have none : (xs.filter fun y => y.startDue && decide (y.num ≤ t.num)) = [] := by
        simp only [List.filter_eq_nil_iff, Bool.and_eq_true, decide_eq_true_eq, not_and]
        intro y hy hd
        have := nodup.1 y hy
        have := later y hy hd
        omega
      simp [dueStarts, due, none]
    | tail _ hm =>
      have out : ¬(x.startDue = true ∧ x.num ≤ t.num) := by
        rintro ⟨hd, hn⟩
        have := nodup.1 t hm
        have hl : ¬x.num < t.num := fun h => by simp [first x (.head _) h] at hd
        omega
      have rest := ih nodup.2 hm fun y hy => first y (.tail _ hy)
      simpa [dueStarts, List.filter_cons, out] using rest

/-! ## The writes to the group table and the reports that follow them (R158) -/

@[simp] theorem slipClear_groups (r : Rig) (s : State) : (slipClear r s).groups = s.groups := by
  unfold slipClear; split <;> rfl

@[simp] theorem slipClear_arb (r : Rig) (s : State) : (slipClear r s).arb = s.arb := by
  unfold slipClear; split <;> rfl

theorem slipClear_tracker_other (s : State) {r q : Rig} (h : q ≠ r) : (slipClear r s).tracker q = s.tracker q := by
  unfold slipClear
  split
  · exact State.setTracker_tracker_other s _ h
  · rfl

theorem slipClear_tracker_self (s : State) (r : Rig) : (slipClear r s).tracker r =
    if (s.tracker r).causes.slip = true then clearCause .slip (s.tracker r) else s.tracker r := by
  unfold slipClear
  split
  · exact State.setTracker_tracker_self s r _
  · rfl

/-- The withdrawal of a loss report leaves every tracker. -/
theorem lossReport_tracker (before : List Group) (s : State) (r q : Rig) : (lossReport before s r).tracker q =
    (if carries before r && !carries s.groups r then slipClear r s else s).tracker q := by
  unfold lossReport
  cases carriesFollow before r && !carriesFollow s.groups r <;> rfl

@[simp] theorem lossReport_groups (before : List Group) (s : State) (r : Rig) :
    (lossReport before s r).groups = s.groups := by
  unfold lossReport
  cases carries before r && !carries s.groups r <;> cases carriesFollow before r && !carriesFollow s.groups r <;>
    simp [withdrawRig]

/-- A loss report withdraws the detection requests of a rig that lost its last FOLLOW group, and no other (R112). -/
theorem lossReport_arb (before : List Group) (s : State) (r : Rig) : (lossReport before s r).arb =
    { s.arb with requests := s.arb.requests.filter fun q =>
        !((carriesFollow before r && !carriesFollow s.groups r) && (q.rig == r && decide (q.level < 4))) } := by
  unfold lossReport
  cases carries before r && !carries s.groups r <;> cases carriesFollow before r && !carriesFollow s.groups r <;>
    simp [withdrawRig, List.filter_eq_self.2]

/-- One rig's tracker after its loss report, in the words of the statements (R99, R158). -/
theorem lossReport_tracker_self (s u : State) (r : Rig) (h : u.tracker r = s.tracker r) :
    (lossReport s.groups u r).tracker r = s.trackerAfter u.groups r := by
  have e : (carries s.groups r && !carries u.groups r) = true ↔
      (∃ g ∈ s.groups, g.source = .rig r) ∧ ∀ g ∈ u.groups, g.source ≠ .rig r := by simp [carries]
  rw [lossReport_tracker]
  unfold State.trackerAfter
  by_cases hl : (carries s.groups r && !carries u.groups r) = true
  · rw [if_pos hl, slipClear_tracker_self, h]
    have k := e.1 hl
    generalize s.tracker r = t
    obtain ⟨_, _, _, _, _, _, _, _, _, _, _, ⟨stall, slip, beat⟩, _, _⟩ := t
    cases slip
    · rw [if_neg (by simp), if_neg (by simp)]
    · rw [if_pos rfl, if_pos ⟨rfl, k⟩]
      cases stall <;> cases beat <;> simp [clearCause, Causes.remove, Causes.isEmpty]
  · rw [if_neg hl, h, if_neg fun k => hl (e.2 k.2)]

theorem lossReport_tracker_other (before : List Group) (s : State) {r q : Rig} (h : q ≠ r) :
    (lossReport before s r).tracker q = s.tracker q := by
  rw [lossReport_tracker]
  split
  · exact slipClear_tracker_other s h
  · rfl

section

variable (f : List Group → List Group) (s : State)

@[simp] theorem writeGroups_groups : (writeGroups f s).groups = f s.groups := by
  simp [writeGroups, lossReports, Rig.all]

/-- Every tracker after an event's writes to the group table (R99, R158). -/
@[simp] theorem writeGroups_tracker (r : Rig) : (writeGroups f s).tracker r = s.trackerAfter (f s.groups) r := by
  simp only [writeGroups, lossReports, Rig.all, List.foldl]
  cases r
  · rw [lossReport_tracker_other _ _ (by decide), lossReport_tracker_other _ _ (by decide)]
    exact lossReport_tracker_self s _ .A rfl
  · rw [lossReport_tracker_other _ _ (by decide), lossReport_tracker_self s _ .B
      (by rw [lossReport_tracker_other _ _ (by decide)]; rfl), lossReport_groups]
  · rw [lossReport_tracker_self s _ .C (by
      rw [lossReport_tracker_other _ _ (by decide), lossReport_tracker_other _ _ (by decide)]; rfl),
      lossReport_groups, lossReport_groups]

/-- The arbiter after an event's writes to the group table (R112, R158). -/
@[simp] theorem writeGroups_arb :
    (writeGroups f s).arb = { s.arb with requests := s.requestsAfter (f s.groups) } := by
  simp only [writeGroups, lossReports, Rig.all, List.foldl, lossReport_arb, lossReport_groups, State.requestsAfter,
    List.filter_filter]
  congr 1
  refine List.filter_congr fun q _ => ?_
  cases h : q.rig <;>
    simp [show (Rig.B == Rig.A) = false from rfl, show (Rig.C == Rig.A) = false from rfl,
      show (Rig.A == Rig.B) = false from rfl, show (Rig.C == Rig.B) = false from rfl,
      show (Rig.A == Rig.C) = false from rfl, show (Rig.B == Rig.C) = false from rfl,
      carriesFollow, Group.follows, Bool.and_comm, Bool.and_assoc]

end

@[simp] theorem slipClear_block (r : Rig) (s : State) : (slipClear r s).block = s.block := by
  unfold slipClear; split <;> rfl

@[simp] theorem slipClear_port (r q : Rig) (s : State) : (slipClear r s).port q = s.port q := by
  unfold slipClear; split <;> rfl

@[simp] theorem lossReport_block (before : List Group) (s : State) (r : Rig) : (lossReport before s r).block = s.block := by
  unfold lossReport
  cases carries before r && !carries s.groups r <;> cases carriesFollow before r && !carriesFollow s.groups r <;>
    simp [withdrawRig]

@[simp] theorem lossReport_port (before : List Group) (s : State) (r q : Rig) :
    (lossReport before s r).port q = s.port q := by
  unfold lossReport
  cases carries before r && !carries s.groups r <;> cases carriesFollow before r && !carriesFollow s.groups r <;>
    first | rfl | exact slipClear_port r q s

/-- The RIG_STATE that one rig's loss report raises, if any. -/
theorem lossReport_desk (s u : State) (r : Rig) (h : u.tracker r = s.tracker r) : (lossReport s.groups u r).desk =
    if (s.trackerAfter u.groups r).causes = (s.tracker r).causes then u.desk
    else u.desk.offer (.rigState r (u.port r).link (s.trackerAfter u.groups r).st (s.trackerAfter u.groups r).cued
      (s.trackerAfter u.groups r).tap (s.trackerAfter u.groups r).causes false) u.block := by
  have e : (carries s.groups r && !carries u.groups r) = true ↔
      (∃ g ∈ s.groups, g.source = .rig r) ∧ ∀ g ∈ u.groups, g.source ≠ .rig r := by simp [carries]
  have d : (lossReport s.groups u r).desk =
      (if carries s.groups r && !carries u.groups r then slipClear r u else u).desk := by
    unfold lossReport
    cases carriesFollow s.groups r && !carriesFollow u.groups r <;> rfl
  rw [d, ← lossReport_tracker_self s u r h, lossReport_tracker]
  by_cases hl : (carries s.groups r && !carries u.groups r) = true
  · rw [if_pos hl, slipClear_tracker_self, h]
    cases hs : (s.tracker r).causes.slip
    · simp [slipClear, h, hs]
    · have k : (clearCause .slip (s.tracker r)).causes ≠ (s.tracker r).causes := fun k => by
        have := congrArg Causes.slip k
        rw [hs] at this
        revert this
        simp only [clearCause]
        split <;> simp [Causes.remove]
      simp only [slipClear, h, hs, if_true, if_neg k]
      simp [raiseRigState, raise]
  · rw [if_neg hl, h, if_pos rfl]

/-- The writes to the group table change a tracker only where they change its causes. -/
theorem trackerAfter_causes (s : State) (gs : List Group) (r : Rig) :
    ((s.tracker r).st ≠ (s.trackerAfter gs r).st ∨ (s.tracker r).cued ≠ (s.trackerAfter gs r).cued ∨
      (s.tracker r).causes ≠ (s.trackerAfter gs r).causes) ↔ (s.trackerAfter gs r).causes ≠ (s.tracker r).causes := by
  constructor
  · intro h k
    rw [State.trackerAfter] at h k
    simp only at h k
    split at k
    · rename_i hc
      rw [if_pos hc] at h
      split at k <;> exact absurd (congrArg Causes.slip k) (by simp [hc.1])
    · rename_i hc
      rw [if_neg hc] at h
      simp at h
  · exact fun h => .inr (.inr (Ne.symm h))

/-- The Notices of an event's writes to the group table: the RIG_STATE of each SLIP cleared, in port order (R99, R158). -/
theorem writeGroups_desk (f : List Group → List Group) (s : State) : (writeGroups f s).desk =
    s.desk.offers (s.rigStates s.tracker (s.trackerAfter (f s.groups))) s.block := by
  have other {r q : Rig} (h : q ≠ r) (u : State) : (lossReport s.groups u r).tracker q = u.tracker q :=
    lossReport_tracker_other s.groups u h
  simp only [writeGroups, lossReports, Rig.all, List.foldl]
  rw [lossReport_desk s _ .C (by rw [other (by decide), other (by decide)]; rfl),
    lossReport_desk s _ .B (by rw [other (by decide)]; rfl), lossReport_desk s { s with groups := f s.groups } .A rfl]
  simp only [lossReport_groups, lossReport_block, lossReport_port, State.rigStates, trackerAfter_causes, Desk.offers]
  by_cases a : (s.trackerAfter (f s.groups) .A).causes = (s.tracker .A).causes <;>
    by_cases b : (s.trackerAfter (f s.groups) .B).causes = (s.tracker .B).causes <;>
      by_cases c : (s.trackerAfter (f s.groups) .C).causes = (s.tracker .C).causes <;>
        simp [a, b, c, State.port]

end Sys2Proof.Machine
end

