-- ==== Sys2Proof/Tests/Slice0.lean ====
section
/-! SUPPORT. Tests: ill-formed commands that the well-formedness check refuses; the manual's worked examples, one step each;
and, for each statement with hypotheses, a concrete state and operands that meet them. -/

namespace Sys2Proof.Tests
open Sys2Proof Sys2Proof.Machine

/-! ## Ill-formed commands -/

theorem test_wf_entry_index : (Instr.setEntry 256 ⟨1, 16, .next, none, none, none, none, none, none, none, none⟩).wellFormed =
    false := by decide
theorem test_wf_entry_code : (Instr.setEntry 0 ⟨65536, 16, .next, none, none, none, none, none, none, none, none⟩).wellFormed =
    false := by decide
theorem test_wf_entry_pass_limit :
    (Instr.setEntry 0 ⟨1, 16, .next, none, none, some 256, none, none, none, none, none⟩).wellFormed = false := by decide
theorem test_wf_entry_timecode :
    (Instr.setEntry 0 ⟨1, 16, .next, none, none, none, none, none, none, some ⟨256, 0, 0, 0⟩, none⟩).wellFormed = false := by
  decide
theorem test_wf_take_number : [Instr.takeStart 256, .takeWaitExpiry 256, .rampEnd 256, .settleEnd 256].all
    (fun c => !c.wellFormed) = true := by decide
theorem test_wf_index : [Instr.dropEntry 256, .locate 256 none, .queryEntry 256, .queryGroup 256].all
    (fun c => !c.wellFormed) = true := by decide
theorem test_wf_locate_offset : (Instr.locate 0 (some (2 ^ 32))).wellFormed = false := by decide
theorem test_wf_take_groups : (Instr.take .fallback [256]).wellFormed = false := by decide
theorem test_wf_group : (Instr.setGroup 1 (some ⟨1, 256, .blend, .silence, .follow⟩)).wellFormed = false := by decide
theorem test_wf_rate : (Instr.setRate (2 ^ 32)).wellFormed = false := by decide
theorem test_wf_byte_settings :
    [Instr.setLead 256, .setDebounce 256, .setVerify 256, .setSlipWindow 256, .setThreshold 256, .setBlend 256].all
      (fun c => !c.wellFormed) = true := by decide
theorem test_wf_word_settings : [Instr.setBeatInterval 65536, .setSettle 65536].all (fun c => !c.wellFormed) = true := by
  decide
theorem test_wf_preference : (Instr.setPreference (List.replicate 256 .fallback)).wellFormed = false := by
  rw [Instr.wellFormed, List.length_replicate]; decide
theorem test_wf_length_in_range : (Instr.lengthOutOfRange 0 250).wellFormed = false := by decide
theorem test_wf_good : (Instr.lengthOutOfRange 0 251).wellFormed = true ∧ (Instr.setLead 255).wellFormed = true := by decide

/-! ## Small states -/

/-- The state a command leaves. -/
def after (c : Instr) (s : State) : State :=
  match exec c s with
  | .next t => t
  | _ => s

def firstEntry : SegmentEntry := { code := 10, length := 60, endAction := .next, vamp := some ⟨8, 24, some 2⟩ }
def secondEntry : SegmentEntry :=
  { code := 11, length := 70, endAction := .park, timecode := some ⟨⟨1, 2, 59, 20⟩, 25⟩ }
def good : Tracker := { Tracker.reset with st := .ready, timer := some 0 }
def locked : Port :=
  { Port.reset with link := .locked, acquire := 8, expected := some 96, lastArrival := some 64, prevTag := some ⟨9, 0, 0⟩ }

/-- IDLE with a stored two-entry show, every link LOCKED, and an idle desk line. -/
def idle : State :=
  { State.reset with
    setList := [firstEntry, secondEntry], cond := .valid, unstored := false, desk := Desk.reset
    ports := ⟨locked, locked, locked⟩, trackers := ⟨good, good, { good with st := .searching }⟩ }

/-- PARKED at the start with the group on rig A, which is CUED. -/
def parked : State :=
  { idle with
    tr := { idle.tr with st := .parked, house := some ⟨0, 0, 0⟩ }
    groups := [⟨1, ⟨1, 32, .blend, .silence, .follow⟩, .rig .A, false, none⟩,
               ⟨2, ⟨33, 64, .cut, .click, .pinned⟩, .rig .A, false, none⟩]
    trackers := ⟨{ good with cued := true }, good, { good with st := .searching }⟩ }

def ended : State := { parked with tr := { parked.tr with st := .ended, house := some ⟨1, 69, 0⟩ } }

def starting : State :=
  { parked with
    tr := { parked.tr with
      st := .starting, lead := some ⟨⟨0, 0, 0⟩, { jump := true, segmentStart := true }⟩, jumpPending := true, countdown := 8 }
    settings := { parked.settings with lead := 8 } }

/-- ROLLING in the first entry with a plan of two and the lead at its tail. -/
def rolling : State :=
  { parked with
    tr := { parked.tr with
      st := .rolling, house := some ⟨0, 5, 0⟩, plan := [⟨0, 10, 6, 0, {}⟩, ⟨0, 10, 7, 0, {}⟩]
      lead := some ⟨⟨0, 7, 0⟩, {}⟩, heard := true } }

def parkPending : State := { rolling with tr := { rolling.tr with parkPending := true } }

def takeOf (st : TakeSt) (stage : Stage) (due : Option TakeStep) : Take :=
  { num := 3, levels := [4], cause := .manual, rig := .B, target := .rig .B, members := [⟨1, .rig .A, .blend, stage⟩]
    dropped := [], blendLength := 512, settlePeriod := 64, st, startFrame := 32, wait := 0, engine := none, ramp := 0
    settleCount := 0, due }

/-- ROLLING with one open take and its level in service. -/
def taking (t : Take) : State := { rolling with sw := ⟨[t], 4⟩, arb := ⟨[], [(4, 3)]⟩ }

def contents : Contents := ⟨[firstEntry, secondEntry], [(1, GroupDef.default)], [.A, .B, .C], Settings.default⟩
def storing : State := { idle with cond := .writing contents false }
def busyDesk (n : Nat) : State :=
  { idle with desk := { Desk.reset with replies := List.replicate n ⟨0x20, .accepted, .none⟩, line := .reply } }

theorem idle_listening : idle.Listening := ⟨rfl, rfl⟩
theorem idle_stopped : idle.Stopped := ⟨by decide, by decide⟩
theorem idle_settled : idle.cond.Settled := fun _ _ h => nomatch h
theorem parked_listening : parked.Listening := ⟨rfl, rfl⟩
theorem rolling_listening : rolling.Listening := ⟨rfl, rfl⟩
theorem rolling_running : ¬rolling.Stopped := fun h => h.2 rfl
theorem rolling_nothing_due : rolling.NothingDue where
  start := by decide
  cue := by decide
  verify := fun r => by cases r <;> decide
  beat := fun r => by cases r <;> decide
  takes := fun _ h => nomatch h
  held := rfl

/-! ## The manual's worked examples, one step each -/

/-- Section 1.2, dropping an entry: five entries, index 1 dropped in IDLE. -/
theorem test_drop_entry :
    let codes (s : State) : List Nat := s.setList.map (·.code)
    let five := { idle with setList := [110, 120, 130, 140, 150].map fun c => { code := c, length := 6000, endAction := .next } }
    codes (after (.dropEntry 1) five) = [110, 130, 140, 150] ∧ (after (.dropEntry 1) five).unstored = true := by decide

/-- R6, checks 3, 5, 6: an index above count, a code of 0, another entry's code. -/
theorem test_set_entry_refused :
    let result (c : Instr) : List Result := (after c idle).desk.replies.map (·.result)
    result (.setEntry 3 firstEntry.fields) = [.badValue] ∧ result (.setEntry 2 { firstEntry.fields with code := 0 }) = [.badValue]
      ∧ result (.setEntry 2 firstEntry.fields) = [.duplicate] := by decide

/-- R6, check 6: a replacement that keeps its entry's code is taken. -/
theorem test_set_entry_replaces : (after (.setEntry 0 { firstEntry.fields with length := 80 }) idle).setList.map (·.length) =
    [80, 70] := by decide

theorem test_clear_set : (after .clearSet parked).setList = [] ∧ (after .clearSet parked).tr.st = .idle := by decide

/-- Section 1.4, a store with a settings change in flight. -/
theorem test_store_show : (after .storeShow idle).cond.code = .writing ∧ (after .storeShow idle).retained.contents = none := by
  decide
theorem test_store_edit_busy : (after (.setEntry 2 { firstEntry.fields with code := 12 }) storing).desk.replies.map (·.result) =
    [.busy] := by decide
theorem test_store_setting_noted : (after (.setSettle 128) storing).cond = .writing contents true ∧
    (after (.setSettle 128) storing).settings.settle = 128 := by decide

/-- Section 10.5's example: ARM at an idle desk. Rig B goes to SEARCHING; the Reply is sent ahead of the two Notices. -/
theorem test_arm :
    let t := after .arm { idle with trackers := ⟨{ good with st := .offline }, good, { good with st := .excluded }⟩ }
    t.tr.st = .parked ∧ t.tr.house = some ⟨0, 0, 0⟩ ∧ (t.tracker .B).st = .searching ∧ t.desk.line = .reply ∧
      t.desk.notices.length = 2 ∧ t.groups.map (·.source) = [.rig .A] := by decide

/-- The same example: a GO that ends while the ARM reply is pending is answered BUSY with class NONE. -/
theorem test_go_overlap : (after .go (busyDesk 1)).desk.replies.drop 1 = [⟨0x22, .busy, .none⟩] := by decide

/-- The same example: a desk GO refused NO_SOURCE raises no Notice. -/
theorem test_go_no_source :
    let s := { parked with trackers := idle.trackers }
    (after .go s).desk.replies.map (·.result) = [.noSource] ∧ (after .go s).desk.notices = [] := by decide

/-- Section 2.5, a start with a short lead: the first boundary after GO. -/
theorem test_short_lead :
    let t := after (.houseBlockBoundary .low) starting
    t.tr.countdown = 7 ∧ t.tr.plan = [⟨0, 10, 0, 0, { jump := true, segmentStart := true }⟩] ∧ t.tr.st = .starting := by
  decide

theorem test_go : (after .go parked).tr.st = .starting ∧ (after .go parked).tr.countdown = 48 := by decide
theorem test_disarm : (after .disarm parked).tr.st = .idle ∧ (after .disarm parked).groups.map (·.source) =
    [.fallback, .fallback] := by decide
theorem test_locate : (after (.locate 1 (some 69)) parked).tr.house = some ⟨1, 69, 0⟩ ∧
    (after (.locate 1 (some 70)) parked).desk.replies.map (·.result) = [.badValue] := by decide
theorem test_home : (after .home ended).tr.st = .parked ∧ (after .home ended).tr.house = some ⟨0, 0, 0⟩ := by decide

/-- Section 2.6: HALT parks where the house stands, with pass 0. -/
theorem test_halt :
    let s := { rolling with tr := { rolling.tr with house := some ⟨0, 9, 1⟩ } }
    (after .halt s).tr.st = .parked ∧ (after .halt s).tr.house = some ⟨0, 9, 0⟩ ∧ (after .halt s).tr.plan = [] := by decide

/-- R39: below vamp-out the latch is set; at vamp-out RELEASE is WRONG_STATE. -/
theorem test_release :
    let at_ (o : Nat) : State := { rolling with tr := { rolling.tr with lead := some ⟨⟨0, o, 0⟩, {}⟩ } }
    (after .release (at_ 23)).tr.latch = true ∧ (after .release (at_ 24)).desk.replies.map (·.result) = [.wrongState] := by
  decide

/-- R27: at vamp-out the lead loops while the pass after it lies below the limit of 2, and then passes. -/
theorem test_append_vamp :
    let at_ (p : Nat) : State := { rolling with tr := { rolling.tr with lead := some ⟨⟨0, 23, p⟩, {}⟩ } }
    (append 0 (at_ 0)).tr.plan.getLast? = some ⟨0, 10, 8, 1, { loop := true }⟩ ∧
      (append 0 (at_ 1)).tr.plan.getLast? = some ⟨0, 10, 24, 1, {}⟩ := by decide

/-- R30: the boundary makes the head entry the house position, and R21: the block number rises. -/
theorem test_boundary_dequeues :
    let t := after (.houseBlockBoundary .high) rolling
    t.tr.house = some ⟨0, 6, 0⟩ ∧ t.block = 1 ∧ t.tr.cueCount = 1 ∧ t.tr.plan.length = 2 := by decide
theorem test_boundary_wraps : (after (.houseBlockBoundary .low) { idle with block := 0xFFFFFFFF }).block = 0 := by decide

/-- Section 3.8's example, boundaries 1 and 4: roles by source, READY and EXCLUDED. -/
theorem test_roles :
    let s (a c : TrackerSt) (src : Rig) : State :=
      { parked with
        trackers := ⟨{ good with st := a }, good, { good with st := c }⟩
        groups := [⟨1, GroupDef.default, .rig src, false, none⟩] }
    [.A, .B, .C].map (s .ready .ready .A).role = [.air, .cover, .standby] ∧
      [.A, .B, .C].map (s .failed .ready .B).role = [.standby, .air, .cover] ∧
      [.A, .B, .C].map (s .searching .excluded .B).role = [.standby, .air, .excluded] := by decide

/-- Section 3.4's example: an expiry at E + 9, not before. -/
theorem test_slot_expiry :
    let s (p : Nat) : State :=
      { idle with block := 62503, phase := p, ports := ⟨{ locked with expected := some 2000096 }, locked, locked⟩ }
    ((after (.slotExpiry .A) (s 8)).port .A).expected = some 2000096 ∧
      ((after (.slotExpiry .A) (s 9)).port .A).expected = some 2000128 ∧
      ((after (.slotExpiry .A) (s 9)).port .A).line = [⟨2000096, none⟩] := by decide

/-- R50: 128 frames after the last arrival the link is DOWN and the tracker OFFLINE. -/
theorem test_silence :
    let s (p : Nat) : State :=
      { idle with block := 5, phase := p, ports := ⟨{ locked with lastArrival := some 40, expected := some 170 }, locked, locked⟩ }
    ((after (.silenceLimit .A) (s 7)).port .A).link = .locked ∧ ((after (.silenceLimit .A) (s 8)).port .A).link = .down ∧
      ((after (.silenceLimit .A) (s 8)).tracker .A).st = .offline := by decide

/-- Section 4.5's example: rig A's first GOOD report is found at block 100,045 with tap 1,430. -/
theorem test_lineup :
    let s : State :=
      { rolling with
        block := 100000, setList := [firstEntry, secondEntry, { code := 7, length := 6000, endAction := .next }]
        tr := { rolling.tr with
          house := some ⟨2, 1000, 0⟩, plan := (List.range 48).map fun i => ⟨2, 7, 1001 + i, 0, {}⟩ } }
    lineupSearch s 3200010 ⟨7, 33440, 0⟩ = some 1430 ∧ tagCheck s 1430 3200042 ⟨7, 33472, 0⟩ = .match := by decide

/-- Section 4.6's example: rig B's tag is 32 frames early, rig A's 32 frames late. -/
theorem test_tag_check :
    let s : State :=
      { rolling with
        block := 200000
        tr := { rolling.tr with house := some ⟨5, 3000, 0⟩, plan := (List.range 48).map fun i => ⟨5, 12, 3001 + i, 0, {}⟩ } }
    tagCheck s 892 6400004 ⟨12, 96928, 0⟩ = .offset 32 ∧ tagCheck s 1200 6400016 ⟨12, 97184, 0⟩ = .offset (-32) ∧
      tagCheck s 924 6400004 ⟨12, 96928, 0⟩ = .match := by decide

/-- R82, R97: the verify span off air and on air. -/
theorem test_verify_expiry :
    let s : State := { rolling with trackers := ⟨{ good with st := .verifying, verifyDue := true }, { good with st := .verifying, verifyDue := true }, good⟩ }
    ((after (.verifyCountdownExpiry .B) s).tracker .B).st = .searching ∧
      ((after (.verifyCountdownExpiry .A) s).tracker .A).st = .failed := by decide

/-- R102: the fall from −8 to −9 fails the tracker; from −7 it does not. -/
theorem test_beat_expiry :
    let s (n : Int) : State := { idle with trackers := ⟨{ good with balance := n, beatDue := true }, good, good⟩ }
    ((after (.beatIntervalExpiry .A) (s (-8))).tracker .A).causes.beat = true ∧
      ((after (.beatIntervalExpiry .A) (s (-7))).tracker .A).st = .ready := by decide

/-- R121: a TAKE in ROLLING opens a take and leaves the source; R122: in PARKED it reassigns at once. -/
theorem test_take :
    (after (.take (.rig .B) [1]) rolling).sw.takes.map (·.target) = [.rig .B] ∧
      (after (.take (.rig .B) [1]) rolling).groups = rolling.groups ∧
      (after (.take (.rig .B) [1]) parked).groups.map (·.source) = [.rig .B, .rig .A] := by decide
theorem test_take_not_ready : (after (.take (.rig .C) [1]) rolling).desk.replies.map (·.result) = [.notReady] := by decide
theorem test_exclude : (after (.exclude (.rig .A)) parked).desk.replies.map (·.result) = [.onAir] ∧
    ((after (.exclude (.rig .B)) parked).tracker .B).st = .excluded := by decide
theorem test_admit :
    let s := { idle with trackers := ⟨good, { good with st := .excluded }, good⟩ }
    ((after (.admitRig (.rig .B)) s).tracker .B).st = .searching := by decide
theorem test_set_group : (after (.setGroup 3 (some ⟨64, 64, .cut, .silence, .follow⟩)) parked).desk.replies.map (·.result) =
    [.badValue] ∧ (after (.setGroup 2 none) parked).groups.length = 1 := by decide

/-- Section 7.5's example: the blended samples of take 50. -/
theorem test_blend : blendSample 512 0 1000 (-3000) = 992 ∧ blendSample 512 255 1000 (-3000) = -1000 ∧
    blendSample 512 511 1000 (-3000) = -3000 := by decide

theorem test_take_steps :
    (after (.takeStart 3) (taking (takeOf .waiting .outgoing (some .start)))).sw.takes.map (·.st) = [.blending] ∧
      (after (.rampEnd 3) (taking (takeOf .blending .ramp (some .rampEnd)))).sw.takes.map (·.st) = [.settling] ∧
      (after (.settleEnd 3) (taking (takeOf .settling .incoming (some .settleEnd)))).groups.map (·.source) =
        [.rig .B, .rig .A] := by decide

/-- R134: a MANUAL take whose target's audio never came closes and leaves its group where it was. -/
theorem test_take_wait : (after (.takeWaitExpiry 3) (taking (takeOf .waiting .outgoing (some .waitExpiry)))).sw.takes = [] ∧
    (after (.takeWaitExpiry 3) (taking (takeOf .waiting .outgoing (some .waitExpiry)))).groups = rolling.groups := by decide

/-- Section 9.1's three computations of R161. -/
theorem test_timecode : tcValueAt .r48 ⟨⟨1, 2, 59, 20⟩, 25⟩ 28800 = ⟨1, 3, 0, 10⟩ ∧
    tcValueAt .r96 ⟨⟨23, 59, 59, 20⟩, 24⟩ 40000 = ⟨0, 0, 0, 6⟩ ∧ tcValueAt .r48 ⟨⟨5, 0, 0, 0⟩, 24⟩ 29999 = ⟨5, 0, 0, 14⟩ := by
  decide

/-- Section 9.3's four frames at 128.00 BPM. -/
theorem test_click : framesPerBeat .r48 12800 = 22500 ∧
    [90500, 113000, 23500, 22511].map (clickOf .r48 ⟨22500, 4, 0, 960⟩) = [-1048576, 1048576, 0, 1048576] := by decide

/-- Section 9.3's loop: 120.00 BPM with the downbeat at frame 3,000. -/
theorem test_click_loop : framesPerBeat .r48 12000 = 24000 ∧
    [38399, 19200, 27000].map (clickOf .r48 ⟨24000, 4, 3000, 960⟩) = [0, 0, 1048576] := by decide

/-- R176: clamps at the edges of their ranges, and the middle of two beat intervals. -/
theorem test_clamps : (after (.setLead 121) idle).settings.lead = 120 ∧ (after (.setVerify 7) idle).settings.verify = 8 ∧
    (after (.setBeatInterval 55) idle).settings.beat = 60 ∧ (after (.setDebounce 5) idle).settings.debounce = 8 ∧
    (after (.setSlipWindow 65) idle).settings.slipWindow = 64 ∧ (after (.setBlend 0) idle).settings.blend = 1 := by decide
theorem test_threshold_not_clamped : (after (.setThreshold 5) idle).desk.replies.map (·.result) = [.badValue] := by decide
theorem test_set_recover : (after (.setRecover false) idle).settings.recover = false := by decide
theorem test_set_triggers : (after (.setTriggers ⟨false, true, true, true⟩) idle).settings.triggers.rigC = true := by decide
theorem test_set_rate : ((after (.setRate 96000) idle).port .A).link = .down ∧
    (after (.setRate 44100) idle).desk.replies.map (·.result) = [.badValue] := by decide
theorem test_set_preference : (after (.setPreference [.rig .B]) idle).prefs = [.B] ∧
    (after (.setPreference [.rig .B, .rig .B]) idle).desk.replies.map (·.result) = [.duplicate] := by decide
theorem test_queries :
    (after (.queryEntry 1) idle).desk.replies.map (·.summary) = [.query (.entry secondEntry)] ∧
      (after (.queryGroup 2) idle).desk.replies.map (·.result) = [.badValue] ∧
      (after .querySettings idle).desk.replies.map (·.summary) = [.query (.settings idle.settings idle.prefs)] := by decide

/-- R179: the transmit line ends a Reply and starts the next frame that waits. -/
theorem test_transmit_end : (after .transmitFrameEnd (busyDesk 2)).desk.replies.length = 1 ∧
    (after .transmitFrameEnd (busyDesk 1)).desk.line = .idle := by decide

theorem test_time_message_end :
    let m : TimeMsg := ⟨true, false, ⟨1, 2, 3, 4⟩, 25, 10⟩
    (after .timeMessageEnd { idle with tc := { idle.tc with sending := some m, waiting := some m } }).tc.sending = some m := by
  decide

/-- R152, R153: a frame at phase 0 outputs 64 samples, silence where nothing has arrived. -/
theorem test_output_frame : (after .outputFrame rolling).phase = 1 ∧ (after .outputFrame rolling).program.length = 64 := by
  decide +kernel

theorem test_power : (after (.powerRemoved 0) idle).power = false ∧ (after .arm (after (.powerRemoved 0) idle)).tr.st = .idle := by
  decide
theorem test_restart : (after .restart rolling).tr.st = .idle ∧ (after .restart rolling).setList = rolling.setList := by decide

/-- The published check value of CRC-16 with polynomial x^16 + x^12 + x^5 + 1 and initial value all ones, over the nine digits
"123456789". -/
theorem test_crc : crc16 [0x31, 0x32, 0x33, 0x34, 0x35, 0x36, 0x37, 0x38, 0x39] = 0x29B1 := by decide +kernel

/-- A GO frame: start byte, length 1, kind H'22, check (section 10.1). -/
def goFrame : List Byte := deskFrameBytes 0x22 []

theorem test_desk_frame : goFrame.take 4 = [0xA5, 0, 1, 0x22] ∧ goFrame.length = 6 ∧
    (after (.deskFrame goFrame) parked).tr.st = .starting := by decide +kernel
theorem test_receiver_discards : (after .startByte idle).desk.rx = .collecting [] ∧
    (after (.lengthOutOfRange 0 251) (after .startByte idle)).desk.rx = .hunting ∧
    (after .interByteTimeout (after .startByte idle)).desk.rx = .hunting := by decide

/-- One channel of silence with a good tag: code, frame offset, pass, PARKED or not (section 3.2). -/
def blockOf (flags : Byte) (code offset pass : Nat) : List Byte :=
  let tag := flags :: (num2 code ++ num4 offset ++ num1 pass ++ num1 1)
  0xB1 :: (tag ++ crcBytes (crc16 tag) ++ List.replicate 96 0)
def beatOf (code : Nat) : List Byte := 0xB2 :: (num2 code ++ crcBytes (crc16 (0xB2 :: num2 code)))

/-- Section 3.4's example, the Block that arrives at 2,000,030 while E is 2,000,032. -/
theorem test_block_in_place :
    let s : State :=
      { idle with
        block := 62500, phase := 30
        ports := ⟨{ locked with
          expected := some 2000032, lastArrival := some 1999998, prevTag := some ⟨7, 64000, 0⟩ }, locked, locked⟩ }
    let p := (after (.blockMessage .A (blockOf 0 7 64032 0)) s).port .A
    p.expected = some 2000064 ∧ p.lastArrival = some 2000030 ∧ p.prevTag = some ⟨7, 64032, 0⟩ ∧
      p.line.map (·.stamp) = [2000032] := by decide +kernel

/-- The same example's early Block: it arrives at 2,000,110 while E is 2,000,128, and is stamped at its arrival. -/
theorem test_block_early :
    let s : State :=
      { idle with
        block := 62503, phase := 14
        ports := ⟨{ locked with expected := some 2000128, lastArrival := some 2000071 }, locked, locked⟩ }
    let t := after (.blockMessage .A (blockOf 0 7 64128 0)) s
    (t.port .A).expected = some 2000142 ∧ (t.port .A).line.map (·.stamp) = [2000110] ∧ (t.tracker .A).badRun = 1 := by
  decide +kernel
theorem test_beat : ((after (.beatMessage .A (beatOf 7)) idle).port .A).beatCode = some 7 ∧
    ((after (.beatMessage .A (beatOf 7)) idle).tracker .A).balance = 1 := by decide +kernel

/-! ## Concrete states that meet the hypotheses of the statements -/

def stored : State := { idle with retained := contents.copy }
def dark : State := { idle with power := false }

theorem witness_stepRunsFront : idle.pending = [] := rfl
set_option maxRecDepth 20000 in
theorem witness_powerRules : stored.retained.contents = some contents ∧ idle.retained.contents = none ∧
    storing.power = true ∧ idle.cond.Settled ∧ storing.cond = .writing contents false ∧
    contents.bytes.length + 2 ≤ contents.bytes.length + 2 ∧ contents.bytes.length + 1 < contents.bytes.length + 2 ∧
    dark.power = false ∧ Instr.arm ≠ .coldStart :=
  ⟨by decide +kernel, by decide +kernel, rfl, idle_settled, rfl, Nat.le_refl _, Nat.lt_succ_self _, rfl, by decide⟩

/-- The invariants hold of a running state, and its step answers a next state. -/
theorem witness_invariants :
    let s := { taking (takeOf .waiting .outgoing none) with pending := [.houseBlockBoundary .low] }
    (∃ t : State, step s = .next t) ∧ s.desk.Safe ∧ (∀ r, (s.tracker r).Safe) ∧ (∀ r, (s.port r).Safe) ∧ SetListSafe s.setList ∧
      GroupsSafe s.groups ∧ s.PlanSafe ∧ s.StoppedSafe ∧ s.ServiceSafe ∧ s.ExcludedSafe ∧ s.tr.st = .rolling ∧
      s.pending.head? ≠ some .coldStart := by
  refine ⟨⟨_, rfl⟩, ⟨by decide, by decide, by decide⟩, fun r => by cases r <;> constructor <;> decide,
    fun r => by cases r <;> constructor <;> decide, ⟨by decide, fun e he => ?_, by decide⟩,
    ⟨by decide, by decide, by decide, by decide, by decide⟩, ⟨⟨by decide, by decide⟩, by decide⟩,
    ⟨by decide, by decide, by decide⟩, ⟨by decide, by decide, by decide, by decide, by decide, by decide, by decide⟩,
    fun r => by cases r <;> decide, rfl, by decide⟩
  have : e = firstEntry ∨ e = secondEntry := by simpa [taking, rolling, parked, idle] using he
  rcases this with rfl | rfl
  · exact ⟨by decide, by decide, by decide, by decide, .inr ⟨8, 24, rfl, rfl, by decide, by decide, by decide, by
      intro p hp; cases hp; decide⟩, .inl ⟨rfl, rfl, rfl⟩, .inl ⟨rfl, rfl⟩⟩
  · exact ⟨by decide, by decide, by decide, by decide, .inl ⟨rfl, rfl, rfl⟩, .inl ⟨rfl, rfl, rfl⟩,
      .inr ⟨⟨1, 2, 59, 20⟩, 25, rfl, rfl, by decide, by decide, by decide, by decide, by decide⟩⟩

theorem witness_tapFrozenOnAir : rolling.tr.st = .rolling ∧ rolling.onAir .A = true ∧
    exec .transmitFrameEnd rolling = .next (after .transmitFrameEnd rolling) ∧
    (after .transmitFrameEnd rolling).tr.st = .rolling := ⟨rfl, by decide, rfl, by decide⟩

/-- For SET and QUERY commands, EXCLUDE, ADMIT and every other statement that asks for a Listening state alone; SET LEAD's two
cases, and SET RATE's. -/
theorem witness_settings : idle.Listening ∧ rolling.Listening ∧ rolling.tr.st = .rolling ∧ idle.Stopped ∧
    idle.tr.st = .idle ∧ idle.sw.takes = [] ∧ (96000 : Nat) ≠ idle.settings.rate.frames ∧
    (4 : Nat) ≠ idle.settings.threshold ∧ (¬([.A, .A] : List Rig).Nodup) ∧ ([.B, .A] : List Rig).Nodup ∧
    [.B, .A] ≠ idle.prefs :=
  ⟨idle_listening, rolling_listening, rfl, idle_stopped, rfl, rfl, by decide, by decide, by decide, by decide, by decide⟩

theorem witness_queries : parked.Listening ∧ parked.setList[1]? = some secondEntry ∧ parked.setList.length ≤ 2 ∧
    (∀ g ∈ parked.groups, ∀ h ∈ parked.groups, h.num = g.num → h = g) ∧ ∀ g ∈ parked.groups, g.num ≠ 3 :=
  ⟨parked_listening, rfl, by decide, by decide, by decide⟩

theorem witness_deskQueues : commandKind .arm = some 0x20 ∧ (busyDesk 15).power = true ∧ (busyDesk 15).desk.replies ≠ [] ∧
    (busyDesk 15).desk.replies.length < 16 ∧ 16 ≤ (busyDesk 16).desk.replies.length ∧ idle.desk.notices.length < 32 ∧
    32 ≤ (List.replicate 32 checkFailedNotice).length := by decide

theorem witness_framesSpellCommands : (Instr.locate 1 (some 69)).wellFormed = true ∧
    commandKind (.locate 1 (some 69)) = some 0x24 ∧ commandPayload (.locate 1 (some 69)) = some [1, 1, 0, 0, 0, 69] ∧
    idle.desk.rx = .hunting := by decide

theorem witness_receiverRules : idle.Listening ∧ idle.desk.rx = .hunting ∧ (15 : Byte).toNat < 16 ∧ 96 ≤ (96 : Byte).toNat ∧
    ((0x20 : Byte).toNat / 16 = 2 ∧ (0x20 : Byte).toNat ≠ 0x24 ∧ ([0] : List Byte) ≠ []) ∧
    (1 ≤ be2 0 1 ∧ be2 0 250 ≤ 250 ∧ (0xA5 : Byte) ∉ [0, 1, 0x22, 0, 0] ∧ crcBytes (crc16 [0, 1, 0x22]) ≠ [0, 0]) ∧
    (after .startByte idle).desk.rx = .collecting [] ∧ be2 0 0 = 0 ∧ 250 < be2 0 251 ∧ (0xA5 : Byte) ∉ ([] : List Byte) :=
  ⟨idle_listening, rfl, by decide, by decide, by decide, by decide +kernel, by decide, by decide, by decide, by decide⟩

/-- No well-formed command has DROP ENTRY's kind and an empty payload, nor kind H'15. -/
theorem witness_badFrames : ∀ c : Instr, c.wellFormed = true →
    (commandKind c = some 0x11 → commandPayload c ≠ some []) ∧ commandKind c ≠ some 0x15 := by
  intro c _
  cases c <;> simp [commandKind, commandPayload, num1]

theorem witness_setEntry : idle.Listening ∧ idle.Stopped ∧ idle.cond.Settled ∧ ¬rolling.Stopped ∧ ¬storing.cond.Settled ∧
    (checkEntry firstEntry.fields).isSome = true ∧ idle.setList.length = 2 ∧
    (∀ (j : Nat) (x : SegmentEntry), idle.setList[j]? = some x → x.code = secondEntry.code → j = 1) :=
  ⟨idle_listening, idle_stopped, idle_settled, rolling_running, fun h => h _ _ rfl, by decide, rfl, fun j x hx hc => by
    match j with
    | 0 => injection hx with hx; subst hx; exact absurd hc (by decide)
    | 1 => rfl
    | _ + 2 => cases hx⟩

theorem witness_editReport : parked.tr.house = some ⟨0, 0, 0⟩ ∧ parked.tr.st = .parked ∧
    parked.setList.getLast? = some secondEntry ∧ parked.setList[0]? = some firstEntry ∧
    ended.tr.house = some ⟨1, 69, 0⟩ ∧ { ended with setList := [firstEntry] }.setList.length ≤ 1 ∧
    { ended with setList := [] }.setList = [] := by decide

set_option maxRecDepth 20000 in
theorem witness_store : idle.Listening ∧ idle.Stopped ∧ idle.cond.Settled ∧ storing.power = true ∧
    storing.cond = .writing contents false ∧ contents.ok = true ∧
    crc16 ([((0, 1) : Nat × Byte)].foldl (fun bs d => bs.modify d.1 (· ^^^ d.2)) contents.bytes) ≠ crc16 contents.bytes :=
  ⟨idle_listening, idle_stopped, idle_settled, rfl, rfl, by decide, by decide +kernel⟩

/-- Damage by a multiple of the check's polynomial, which the check does not find: the copy is good (R14), though its count
byte no longer agrees with its entries. -/
def unfound : List (Nat × Byte) := [(0, 0x01), (1, 0x10), (2, 0x21)]
set_option maxRecDepth 20000 in
theorem witness_storeDamage :
    crc16 (unfound.foldl (fun bs d => bs.modify d.1 (· ^^^ d.2)) contents.bytes) = crc16 contents.bytes := by decide +kernel
set_option maxRecDepth 20000 in
theorem test_store_unfound_damage : (after (.storeWriteEnd unfound) storing).cond = .valid ∧
    (after (.storeWriteEnd unfound) storing).retained.contents.isSome = true := by
  constructor <;> decide +kernel

set_option maxRecDepth 20000 in
theorem witness_recallShow : stored.Listening ∧ stored.tr.st = .idle ∧ stored.cond.Settled ∧
    stored.retained.contents = some contents ∧ stored.sw.takes = [] :=
  ⟨⟨rfl, rfl⟩, rfl, idle_settled, by decide +kernel, rfl⟩

theorem witness_arm : idle.Listening ∧ idle.tr.st = .idle ∧ idle.setList ≠ [] ∧ idle.groups ≠ [] ∧
    (∀ g ∈ idle.groups, g.source = .fallback) ∧ ended.tr.st = .ended :=
  ⟨idle_listening, rfl, by decide, by decide, by decide, rfl⟩

theorem witness_goParked : parked.Listening ∧ parked.tr.st = .parked ∧ parked.tr.house = some ⟨0, 0, 0⟩ ∧
    (parked.tracker .A).cued = true ∧ ∀ r, (idle.tracker r).cued = false :=
  ⟨parked_listening, rfl, rfl, rfl, fun r => by cases r <;> rfl⟩

/-- R99, R112, R158: with A FAILED by SLIP, or by SLIP and BEAT, and a request of A and one of B pending: what DISARM, GO, a stopped
TAKE and a SET GROUP that removes leave of A and of the requests; while A keeps a group, SLIP stays. -/
theorem witness_lossReports :
    let s (beat : Bool) : State :=
      { parked with
        trackers := ⟨{ good with st := .failed, notFound := 7, causes := ⟨false, true, beat⟩ }, { good with cued := true }, good⟩
        arb := ⟨[⟨1, .A, .stall, 0⟩, ⟨1, .B, .stall, 0⟩], []⟩ }
    let a (c : Instr) (beat : Bool) := ((after c (s beat)).tracker .A).causes
    let left (c : Instr) := (after c (s true)).arb.requests.map (·.rig)
    ((after .disarm (s false)).tracker .A) = { good with st := .searching } ∧ left .disarm = [.B] ∧
      a .disarm true = ⟨false, false, true⟩ ∧ ((after .disarm (s true)).tracker .A).st = .failed ∧
      a .go true = ⟨false, true, true⟩ ∧ left .go = [.B] ∧
      a (.take (.rig .B) [1, 2]) true = ⟨false, false, true⟩ ∧ left (.take (.rig .B) [1]) = [.B] ∧
      a (.setGroup 1 none) true = ⟨false, true, true⟩ ∧ left (.setGroup 1 none) = [.B] ∧
      left (.setGroup 2 none) = [.A, .B] := by decide

/-- R99: at HALT and at a run's end a take that has started moves the only group of A, whose SLIP clears. -/
theorem witness_lossAtClose :
    let s : State :=
      { taking (takeOf .blending .ramp none) with
        groups := [⟨1, ⟨1, 32, .blend, .silence, .follow⟩, .rig .A, false, none⟩]
        trackers := { rolling.trackers with a := { good with st := .failed, causes := ⟨false, true, false⟩ } } }
    let t := after .halt s
    let u := after (.houseBlockBoundary .low) { s with tr := { s.tr with plan := [], endPending := true } }
    t.tr.st = .parked ∧ (t.tracker .A).st = .searching ∧ (t.tracker .A).causes = ⟨false, false, false⟩ ∧
      u.tr.st = .ended ∧ (u.tracker .A).st = .searching ∧ (u.tracker .A).causes = ⟨false, false, false⟩ ∧
      (u.tracker .A).timer = some 1 := by decide

/-- R84: ARM's counts in SETTLING, READY and VERIFYING; a FAILED tracker keeps its record. -/
theorem witness_armTrackers :
    let s (c : TrackerSt) : State :=
      { idle with trackers := ⟨{ good with st := .settling, matchCount := 9 },
          { good with st := .verifying, notFound := 4, verify := 6, verifyDue := true }, { good with st := c, notFound := 5 }⟩ }
    (s .ready).tr.st = .idle ∧ (after .arm (s .ready)).trackers =
      ⟨{ good with st := .settling }, { good with st := .searching }, { good with st := .searching }⟩ ∧
      (after .arm (s .failed)).tracker .C = { good with st := .failed, notFound := 5 } := by decide

set_option maxRecDepth 20000 in
/-- R18, R64, R67: RECALL SHOW of another house rate, with a CUED tracker and an EXCLUDED one. -/
theorem witness_recallRate :
    let s : State :=
      { stored with
        settings := { stored.settings with rate := .r96 }
        trackers := ⟨{ good with cued := true, balance := 3 }, { good with st := .excluded }, good⟩ }
    let t := after .recallShow s
    s.settings.rate ≠ contents.settings.rate ∧ (t.tracker .A).st = .offline ∧ (t.tracker .A).cued = false ∧
      (t.tracker .A).balance = 3 ∧ t.tracker .B = { good with st := .excluded } ∧ (t.port .A).link = .down := by
  decide +kernel

/-- For GO with a park pending, LOCATE with one pending, and a press there: the lead stands in the first entry. -/
theorem witness_parkPending : parkPending.Listening ∧ parkPending.tr.st = .rolling ∧ parkPending.tr.parkPending = true ∧
    parkPending.tr.endPending = false ∧ parkPending.tr.lead = some ⟨⟨0, 7, 0⟩, {}⟩ ∧
    parkPending.setList[1]? = some secondEntry ∧ parkPending.tr.plan.length < parkPending.settings.lead ∧
    parkPending.settings.lead ≤ 120 := ⟨⟨rfl, rfl⟩, rfl, rfl, rfl, rfl, rfl, by decide, by decide⟩

/-- R35: the catch-up fills the plan to lead_blocks, or ends short at the set list's end with the end pending. -/
theorem test_go_park_pending :
    let t := (after .go { parkPending with settings := { parkPending.settings with lead := 16 } }).tr
    let u := (after .go { parkPending with
      setList := [firstEntry, { secondEntry with length := 16 }], settings := { parkPending.settings with lead := 20 } }).tr
    (t.plan.length = 16 ∧ t.parkPending = false ∧ t.endPending = false) ∧
      (u.plan.length = 18 ∧ u.parkPending = false ∧ u.endPending = true) := by decide +kernel

theorem witness_locate : Locates (.locate 1 (some 69)) 0x24 1 69 ∧ Locates (.locate 1 none) 0x24 1 0 ∧ Locates .home 0x25 0 0 ∧
    parked.Listening ∧ parked.setList[1]? = some secondEntry ∧ 69 < secondEntry.length ∧ secondEntry.length ≤ 70 ∧
    starting.tr.st = .starting ∧ starting.desk.replies = [] ∧ rolling.tr.parkPending = false ∧ rolling.tr.endPending = false :=
  ⟨.inl ⟨_, rfl, rfl, rfl⟩, .inl ⟨_, rfl, rfl, rfl⟩, .inr ⟨rfl, rfl, rfl, rfl⟩, parked_listening, rfl, by decide, by decide, rfl, rfl,
    rfl, rfl⟩

theorem witness_halt :
    let s := taking (takeOf .blending .ramp none)
    s.Listening ∧ ¬s.Stopped ∧ s.tr.house = some ⟨0, 5, 0⟩ ∧ (∀ x ∈ s.arb.inService, ∃ u ∈ s.sw.takes, u.num = x.2) ∧
      (s.sw.takes.flatMap fun u => u.members.map (·.group)).Nodup :=
  ⟨⟨rfl, rfl⟩, rolling_running, rfl, by decide, by decide⟩

/-- R145, R148, R80: HALT with CUED held and a take in its ramp: the notices, behind the one that waits, and the groups. -/
theorem test_halt_notices :
    let s : State :=
      { taking (takeOf .blending .ramp none) with
        desk := { Desk.reset with line := .reply, notices := [⟨.noSource .cueLine, 9, true⟩] } }
    let t := after .halt { s with desk := { s.desk with line := .notice ⟨.noSource .cueLine, 8, false⟩ } }
    (s.tracker .A).cued = true ∧ t.groups.map (fun g => (g.num, g.source)) = [(1, .rig .B), (2, .rig .A)] ∧
      t.desk.notices.map (·.body) =
        [.noSource .cueLine, .rigState .A .locked .ready false 0 ⟨false, false, false⟩ false,
          .takeSettled 3 .halt .manual (.rig .B) [4] none (some 1) [(1, .rig .B)],
          .transport .halt .parked (some ⟨0, 5, 0⟩) none] := by decide

/-- R180, R20, R66: RESTART empties the queue, then raises ABANDONED and the RIG_STATEs of the LOCKED rigs not EXCLUDED. -/
theorem test_restart_notices :
    let s : State :=
      { storing with
        trackers := { storing.trackers with b := { good with st := .excluded } }
        desk := { Desk.reset with lost := true, notices := [⟨.noSource .cueLine, 9, true⟩] } }
    let d := (after .restart s).desk
    (d.lost, d.line, d.replies.map (·.result)) = (false, .reply, [.accepted]) ∧ d.notices.map (·.body) =
      [.storeFailed .abandoned .invalid true, .rigState .A .locked .searching false 0 ⟨false, false, false⟩ false,
        .rigState .C .locked .searching false 0 ⟨false, false, false⟩ false] := by decide

/-- R63, R64, R94: the notices of a change of rate with an online, an EXCLUDED and a DOWN rig. -/
theorem test_set_rate_notices :
    let s : State :=
      { idle with
        ports := { idle.ports with c := Port.reset }
        trackers := ⟨good, { good with st := .excluded }, { good with st := .offline }⟩ }
    (after (.setRate 96000) s).desk.notices.map (·.body) =
      [.rigState .A .down .offline false 0 ⟨false, false, false⟩ false,
        .fault .A .link false 0 .detection false .advisoryState ⟨false, false, false⟩,
        .rigState .B .down .excluded false 0 ⟨false, false, false⟩ false] := by decide

theorem witness_release : rolling.tr.lead = some ⟨⟨0, 7, 0⟩, {}⟩ ∧ rolling.setList[0]? = some firstEntry ∧
    firstEntry.vamp = some ⟨8, 24, some 2⟩ ∧ (23 : Nat) < 24 ∧ rolling.tr.latch = false ∧ rolling.tr.parkPending = false := by
  decide

theorem witness_append : rolling.tr.lead = some ⟨⟨0, 7, 0⟩, {}⟩ ∧ rolling.setList[0]? = some firstEntry ∧
    starting.tr.jumpPending = true ∧ rolling.tr.jumpPending = false ∧ (7 + 1 ≠ 24) ∧ 7 + 1 < firstEntry.length ∧
    (23 + 1 = 24 ∧ 0 + 1 < 2 ∧ 2 ≤ 1 + 1) ∧ 59 + 1 = firstEntry.length ∧ firstEntry.endAction = .next ∧
    rolling.setList[1]? = some secondEntry ∧ 1 + 1 = rolling.setList.length ∧ secondEntry.endAction = .park := by decide

/-- The vamp's end at the segment's length: passed by limit or release, with a next entry and at the set list's end. -/
theorem witness_appendVampEnd :
    let e : SegmentEntry := { firstEntry with vamp := some ⟨8, 60, some 2⟩ }
    let s (latch : Bool) (rest : List SegmentEntry) : State :=
      { rolling with setList := e :: rest, tr := { rolling.tr with lead := some ⟨⟨0, 59, 1⟩, {}⟩, latch } }
    (s true [secondEntry]).tr.lead = some ⟨⟨0, 59, 1⟩, {}⟩ ∧ (s false []).setList[0]? = some e ∧
      e.vamp = some ⟨8, 60, some 2⟩ ∧ 59 + 1 = e.length ∧ (s true []).tr.latch = true ∧ 2 ≤ 1 + 1 ∧
      e.endAction = .next ∧ (s false [secondEntry]).setList[1]? = some secondEntry ∧ 0 + 1 = (s true []).setList.length ∧
      (s true []).tr.plan.getLast? = some ⟨0, 10, 7, 0, {}⟩ ∧ (s true []).tr.jumpPending = false := by decide

theorem taking_nothing_due (t : Take) (h : t.due = none) : (taking t).NothingDue :=
  { rolling_nothing_due with
    takes := fun u hu => by
      cases hu with
      | head => exact h
      | tail _ hu => cases hu }

/-- For a boundary with a take that cannot start, one that can, one in its ramp and one settling. -/
theorem witness_boundaryTakes :
    let w := takeOf .waiting .outgoing none
    (taking w).power = true ∧ (taking w).NothingDue ∧ (taking w).tr.plan = ⟨0, 10, 6, 0, {}⟩ :: [⟨0, 10, 7, 0, {}⟩] ∧
      (w.target = .rig .B ∧ framePresent ((taking w).port .B).line (firstFrame ((taking w).block + 1)) = false ∧
        ¬∀ m ∈ w.members, m.stage = .incoming) ∧
      { w with target := .fallback }.target = .fallback ∧ (taking (takeOf .blending .ramp none)).NothingDue ∧
      (taking (takeOf .settling .incoming none)).NothingDue :=
  ⟨rfl, taking_nothing_due _ rfl, rfl, by decide, rfl, taking_nothing_due _ rfl, taking_nothing_due _ rfl⟩

/-- For the timers: a block in an entry with and without tempo and timecode part, and a stopped and a running timer. -/
theorem witness_boundaryTimers :
    let s : State :=
      { rolling with
        setList := [{ firstEntry with tempo := some ⟨12000, 4, 0⟩ }, secondEntry]
        tc := { rolling.tc with held := .counting 149 } }
    s.power = true ∧ s.NothingDue ∧ s.tr.plan = ⟨0, 10, 6, 0, {}⟩ :: [⟨0, 10, 7, 0, {}⟩] ∧
      s.setList[0]?.map (·.tempo) = some (some ⟨12000, 4, 0⟩) ∧ firstEntry.tempo = none ∧ firstEntry.timecode = none ∧
      secondEntry.timecode.isSome = true ∧ 100 * s.settings.rate.frames / 32000 ≤ 149 + 1 ∧
      (s.tracker .A).timer = some 0 ∧ (State.reset.tracker .A).timer = none ∧ parked.tr.st ≠ .rolling :=
  ⟨rfl, { rolling_nothing_due with }, rfl, rfl, rfl, rfl, rfl, by decide, rfl, rfl, by decide⟩

theorem witness_runningBoundary : rolling.power = true ∧ rolling.NothingDue ∧ rolling.tr.st = .rolling ∧
    rolling.tr.plan = ⟨0, 10, 6, 0, {}⟩ :: [⟨0, 10, 7, 0, {}⟩] ∧ starting.tr.st = .starting ∧ starting.tr.countdown = 7 + 1 ∧
    starting.NothingDue ∧ parked.NothingDue ∧ parked.tr.st = .parked ∧ parked.sw.takes = [] :=
  ⟨rfl, rolling_nothing_due, rfl, rfl, rfl, rfl, { rolling_nothing_due with start := by decide },
    { rolling_nothing_due with start := by decide }, rfl, rfl⟩

/-- R26 to R28: a boundary's append that ends the segment sets park-pending, one in STARTING clears jump-pending, and one at the
vamp's end raises VAMP_DECIDED with the block at which its entry is heard. -/
theorem test_boundary_append :
    let short : State := { rolling with setList := [{ firstEntry with length := 8, endAction := .park, vamp := none }, secondEntry] }
    let vamp : State :=
      { rolling with
        tr := { rolling.tr with lead := some ⟨⟨0, 23, 0⟩, {}⟩ }, desk := { Desk.reset with line := .reply } }
    let t := after (.houseBlockBoundary .low) short
    let u := after (.houseBlockBoundary .low) starting
    let v := after (.houseBlockBoundary .low) vamp
    (t.tr.parkPending, t.tr.endPending, t.tr.plan.map (·.marks.last)) = (true, false, [true]) ∧
      (u.tr.jumpPending, u.tr.countdown, u.tr.plan.map (·.marks.jump)) = (false, 7, [true]) ∧
      v.desk.notices.map (fun n => (n.body, n.block)) = [(.vampDecided 0 10 .loop 1 (v.block + 2), v.block)] := by decide

def runningOut : State := { rolling with tr := { rolling.tr with plan := [] } }
theorem witness_runEnd : runningOut.power = true ∧ runningOut.NothingDue ∧ runningOut.tr.st = .rolling ∧ runningOut.tr.plan = [] ∧
    runningOut.tr.house = some ⟨0, 5, 0⟩ ∧ ∀ x ∈ runningOut.arb.inService, ∃ u ∈ runningOut.sw.takes, u.num = x.2 :=
  ⟨rfl, ⟨by decide, by decide, fun r => by cases r <;> decide, fun r => by cases r <;> decide,
    (fun _ h => nomatch h), rfl⟩, rfl, rfl,
    rfl, by decide⟩

/-- R31, R145: at the end of a run a started take lands its member on the target, and the TRANSPORT notice comes last. -/
theorem test_run_end_lands :
    let s : State :=
      { taking (takeOf .blending .ramp none) with
        tr := { runningOut.tr with parkPending := true }, desk := { Desk.reset with line := .reply } }
    let t := after (.houseBlockBoundary .low) s
    t.groups.map (·.source) = [.rig .B, .rig .A] ∧ t.tr.st = .parked ∧
      (t.desk.notices.getLast?.map fun n => (n.body, n.block)) =
        some (.transport .park .parked (some ⟨1, 0, 0⟩) none, s.block + 1) := by decide

def startDueNow : State := { starting with tr := { starting.tr with countdown := 0, cueCount := 12 } }
theorem witness_clockExpiries : startDueNow.power = true ∧ startDueNow.tr.st = .starting ∧ startDueNow.tr.countdown = 0 ∧
    (∀ r, (startDueNow.tracker r).st ≠ .failed) ∧ (∀ r, (startDueNow.tracker r).st = .offline → startDueNow.onAir r = false) ∧
    startDueNow.arb.requests = [] ∧ inDifficulty startDueNow.groups = [] ∧
    startDueNow.settings.debounce * startDueNow.settings.rate.frames / 32000 ≤ startDueNow.tr.cueCount ∧
    ¬starting.settings.debounce * starting.settings.rate.frames / 32000 ≤ 11 :=
  ⟨rfl, rfl, rfl, fun r => by cases r <;> decide, fun r => by cases r <;> decide, rfl, rfl, by decide, by decide⟩

theorem quiet_of (s : State) (h : s.sw.takes = []) (i : s.arb = ⟨[], []⟩) (j : (s.groups.map (·.num)).Nodup)
    (k : s.sw.next < 256) : s.Quiet := ⟨h, by rw [i], by rw [i], j, k⟩
theorem rolling_quiet : rolling.Quiet := quiet_of _ rfl rfl (by decide) (by decide)

/-- A standing STALL of rig A at the change to ROLLING, requested and advisory; and a group on FALLBACK with rig A READY. -/
theorem witness_renewals :
    let failed (n : Nat) : State :=
      { startDueNow with
        settings := { startDueNow.settings with threshold := n }
        trackers := { startDueNow.trackers with a := { good with st := .failed, causes := ⟨true, false, false⟩ } } }
    let v (s : State) : State := raise (.transport .roll .rolling s.tr.house s.tr.cause)
      { s with tr := { s.tr with st := .rolling, heard := false } }
    let hurt : State := { startDueNow with groups := startDueNow.groups.map fun g => { g with source := .fallback } }
    ((failed 3).Quiet ∧ (failed 3).Stands .A .stall ∧ inDifficulty (failed 3).groups = [] ∧
      (∀ x, x ≠ .A → ((failed 3).tracker x).st ≠ .failed ∧ ((failed 3).tracker x).st ≠ .offline) ∧
      decide103 .A .stall (v (failed 3)) = .requested ∧ decide103 .A .stall (v (failed 1)) ≠ .requested) ∧
      hurt.Quiet ∧ inDifficulty hurt.groups ≠ [] ∧ hurt.settings.recover = true ∧ chooseTarget hurt none [] = some .A :=
  ⟨⟨quiet_of _ rfl rfl (by decide) (by decide), ⟨rfl, rfl⟩, by decide, fun x => by cases x <;> decide, by decide, by decide⟩,
    quiet_of _ rfl rfl (by decide) (by decide), by decide, rfl, by decide⟩

theorem witness_rigMessages : (1 ≤ 255 ∧ (255 ≤ 255) ∧ (List.replicate (96 * 255) (0 : Byte)).length = 96 * 255) ∧ 65535 < 65536 ∧
    idle.power = true ∧ ([0xB2, 0, 7] : List Byte).head? = some 0xB2 ∧ ([0xB2, 0, 7] : List Byte).length ≠ 5 :=
  ⟨⟨by decide, by decide, List.length_replicate⟩, by decide, rfl, rfl, by decide⟩

theorem witness_beat : idle.power = true ∧ beatCode? (beatOf 999) = some 999 ∧ (idle.port .A).link = .locked ∧
    (idle.tracker .A).st ≠ .excluded ∧ (idle.tracker .A).balance < 8 ∧ (State.reset.port .A).link ≠ .locked := by
  decide +kernel

/-- The frame 104 is 8 past E = 96, and within 128 of the last arrival at 64; the frame 87 is early. -/
theorem witness_block :
    let s (p : Nat) : State := { idle with block := 2 + BitVec.ofNat 32 (p / 32), phase := p % 32 }
    (blockHead (blockOf 0 10 32 0)).isSome = true ∧ (s 40).power = true ∧ (s 40).now = 104 ∧
      frameDiff (s 40).now 64 ≤ 128 ∧ frameDiff (s 40).now 96 ≤ 8 ∧ frameDiff (s 23).now 96 < -8 ∧
      ((s 40).port .A).link = .locked ∧ (State.reset.port .A).link = .down := by decide +kernel

/-- BlockTaken's report: the Block that locks a link with the tracker OFFLINE, a third bad block REQUESTED in a quiet run, and
a CUE flag that rises. -/
theorem witness_blockReport :
    let s (p : Port) (t : Tracker) : State :=
      { rolling with
        block := 2, phase := 30, ports := { rolling.ports with a := p }, trackers := { rolling.trackers with a := t }
        tr := { rolling.tr with rigCue := rolling.tr.rigCue.set .A (some false) }
        desk := { Desk.reset with line := .reply } }
    let last := s { locked with link := .acquiring, acquire := 7 } { Tracker.reset with balance := 5, notFound := 3 }
    let third := s locked { good with badRun := 2 }
    let t := after (.blockMessage .A (blockOf 0 7 32 0)) last
    last.power = true ∧ frameDiff last.now 64 ≤ 128 ∧ frameDiff last.now 96 ≤ 8 ∧ (last.tracker .A).st = .offline ∧
      (t.port .A).link = .locked ∧ (t.tracker .A).st = .searching ∧ (t.tracker .A).timer = some 0 ∧
      (t.tracker .A).balance = 0 ∧
      t.desk.notices.map (·.body) = [.rigState .A .locked .searching false 0 {} false] ∧
      (reportStep third .A 96 .badTag (third.tracker .A)).detection = some .stall ∧
      decide103 .A .stall third = .requested ∧ third.sw.takes = [] ∧
      (blockHead (blockOf 2 7 32 0)).map (fun x => (x.1.flags.getLsbD 1, x.1.tagOk)) = some (true, true) ∧
      third.tr.rigCue.get .A = some false := by decide +kernel

/-- R78, R118: the Block whose MATCH is the sixteenth takes rig C to READY, and with a FOLLOW group on FALLBACK and nothing in
service its RECOVER request is served at once with a take to C. -/
theorem witness_readyArrival :
    let s : State :=
      { rolling with
        block := 2, phase := 30, settings := { rolling.settings with recover := true }
        groups := rolling.groups.map fun g => { g with source := .fallback }
        trackers := ⟨{ good with st := .searching }, { good with st := .searching },
          { good with st := .settling, matchCount := 15 }⟩ }
    let x := reportStep s .C 96 (.good ⟨10, 192, 0⟩ false) (s.tracker .C)
    let t := after (.blockMessage .C (blockOf 0 10 192 0)) s
    x.ready = true ∧ x.detection = none ∧ s.sw.takes = [] ∧ s.arb.requests = [] ∧ s.arb.inService = [] ∧
      inDifficulty s.groups ≠ [] ∧ (t.tracker .C).st = .ready ∧ (t.tracker .C).matchCount = 16 ∧
      t.sw.takes.map (fun k => (k.cause, k.target, k.members.map (·.group))) = [(.recover, .rig .C, [1])] ∧
      t.arb.inService = [(4, 0)] := by decide +kernel

theorem witness_linkExpiries :
    let s (p : Nat) : State := { idle with block := 3, phase := p }
    (s 9).power = true ∧ ((s 9).port .A).link ≠ .down ∧ ((s 9).port .A).expected = some 96 ∧ 9 ≤ frameDiff (s 9).now 96 ∧
      frameDiff (s 8).now 96 < 9 ∧ 128 ≤ frameDiff (firstFrame 6) 64 ∧ frameDiff (frameAt 5 31) 64 < 128 ∧
      decide103 .A .link (s 9) ≠ .requested ∧ (s 9).sw.takes = [] ∧ ((s 9).tracker .A).st ≠ .offline := by decide

/-- The third bad block, and the silence limit, of a rig that carries a FOLLOW group in a quiet run: both REQUESTED. -/
theorem witness_linkRequested :
    let s (n p : Nat) : State :=
      { rolling with
        block := BitVec.ofNat 32 n, phase := p, trackers := { rolling.trackers with a := { good with badRun := 2 } } }
    (s 3 9).Quiet ∧ ((s 3 9).port .A).link = .locked ∧ ((s 3 9).port .A).expected = some 96 ∧ 9 ≤ frameDiff (s 3 9).now 96 ∧
      ((s 3 9).tracker .A).badRun = 2 ∧ ((s 3 9).tracker .A).causes.stall = false ∧ decide103 .A .stall (s 3 9) = .requested ∧
      (s 6 0).Quiet ∧ ((s 6 0).port .A).lastArrival = some 64 ∧ 128 ≤ frameDiff (s 6 0).now 64 ∧
      decide103 .A .link (s 6 0) = .requested ∧ ((s 6 0).tracker .A).st = .ready :=
  ⟨quiet_of _ rfl rfl (by decide) (by decide), rfl, rfl, by decide, rfl, rfl, by decide,
    quiet_of _ rfl rfl (by decide) (by decide), rfl, by decide, by decide, rfl⟩

theorem witness_delayLineRead :
    let newer : SlotRecord := ⟨64, none⟩
    let rec_ : SlotRecord := ⟨32, some ⟨2, List.replicate 32 [5, 6]⟩⟩
    [newer, rec_] = [newer] ++ rec_ :: [] ∧ 32 ≤ ((63 : HouseFrame) - newer.stamp).toNat ∧
      ((63 : HouseFrame) - rec_.stamp).toNat < 32 ∧ 32 ≤ ((64 : HouseFrame) - rec_.stamp).toNat := by decide

/-- The lead-in of a run: the search places a tag at the entry that is heard next. -/
theorem witness_lineupSearch : rolling.PlanSafe ∧ rolling.tr.st = .rolling ∧ rolling.tr.heard = true ∧ rolling.tr.countdown = 0 ∧
    rolling.tr.plan.length + rolling.tr.countdown ≤ 256 ∧ lineupSearch rolling 0 ⟨10, 192, 0⟩ = some 32 ∧
    (planAt rolling 0).isSome = true ∧ planAt rolling 9 = none :=
  ⟨⟨⟨by decide, by decide⟩, by decide⟩, rfl, rfl, rfl, by decide, by decide, by decide, by decide⟩

theorem witness_tagWork : rolling.tr.st = .rolling ∧ rolling.tapFree .C = true ∧ (rolling.tracker .C).causes.stall = false ∧
    (rolling.tracker .C).st = .searching ∧ rolling.onAir .A = true ∧ (rolling.tracker .A).st = .ready ∧
    (rolling.tracker .A).slipRun < 3 ∧ tagCheck rolling 0 32 ⟨10, 192, 0⟩ = .match := by decide

/-- A parked report, and a MATCH at a frozen tap in SETTLING, VERIFYING and READY, and with the slip run at 3. -/
theorem witness_parkedTagWork :
    let s (st : TrackerSt) : State :=
      { rolling with trackers := { rolling.trackers with a := { good with st, matchCount := 15, slipRun := 3 } } }
    ((s .settling).tracker .A).causes.stall = false ∧ ((s .settling).tracker .A).st = .settling ∧ (s .settling).onAir .A = true ∧
      ((s .settling).tracker .A).slipRun = 3 ∧ 15 ≤ ((s .settling).tracker .A).matchCount ∧
      tagCheck (s .verifying) 0 32 ⟨10, 192, 0⟩ = .match ∧ rolling.onAir .B = false ∧ (rolling.tracker .B).st = .ready ∧
      starting.tr.st = .starting ∧ (starting.tracker .A).st = .ready := by decide

/-- The not-found count that a search which finds nothing brings to the verify span, and one that it does not, at a tap that may
change and at a frozen one; and what the RECOVER request of R118 asks for. -/
theorem witness_notFound :
    let s (n : Nat) : State :=
      { rolling with
        settings := { rolling.settings with verify := 48, recover := true }
        groups := rolling.groups.map fun g => { g with uncovered := true }
        trackers := ⟨{ good with st := .searching, notFound := n }, good, { good with st := .searching, notFound := n }⟩ }
    let tag : Tag := ⟨77, 0, 0⟩
    let x := reportStep (s 47) .C 32 (.good tag false) ((s 47).tracker .C)
    (s 47).tapFree .C = true ∧ lineupSearch (s 47) 32 tag = none ∧ (s 47).onAir .A = true ∧
      tagCheck (s 47) 0 32 tag ≠ .match ∧ x.notFound = true ∧ x.notify = true ∧ x.t.notFound = 0 ∧
      (reportStep (s 46) .C 32 (.good tag false) ((s 46).tracker .C)).t.notFound = 47 ∧
      (∃ g ∈ (s 0).groups, g.gdef.follow = .follow ∧ g.uncovered = true) ∧ (s 0).tr.st = .rolling ∧
      (∃ x ∈ (taking (takeOf .waiting .outgoing none)).arb.inService, x.1 ≤ 4) := by decide

/-- The 32nd good block in a row while ROLLING: STALL as the last cause, at a tap that may change and at a frozen one, and with
SLIP held too. -/
theorem witness_stallClear :
    let t (slip : Bool) : Tracker := { good with st := .failed, goodRun := 31, causes := ⟨true, slip, false⟩ }
    let x (r : Rig) (slip : Bool) := reportStep rolling r 32 (.good ⟨10, 192, 0⟩ false) (t slip)
    rolling.tapFree .C = true ∧ lineupSearch rolling 32 ⟨10, 192, 0⟩ = some 0 ∧ (x .C false).t.st = .settling ∧
      rolling.onAir .A = true ∧ tagCheck rolling 0 32 ⟨10, 192, 0⟩ = .match ∧ (x .A false).t.st = .settling ∧
      (x .A true).t.st = .failed ∧ (x .A true).t.causes = ⟨false, true, false⟩ ∧ (x .A true).notify = true := by decide

theorem witness_blockRuns : parked.tr.st = .parked ∧ parked.tr.house = some ⟨0, 0, 0⟩ ∧ parked.setList[0]? = some firstEntry ∧
    (parked.tracker .A).causes.stall = false ∧ (parked.tracker .A).st = .ready ∧ (parked.tracker .A).badRun ≤ 3 ∧
    (parked.tracker .A).goodRun ≤ 32 := by decide

theorem witness_trackerExpiries :
    let s : State :=
      { parked with
        trackers := ⟨{ good with st := .verifying, verifyDue := true, beatDue := true, balance := -8 },
          { good with st := .verifying, verifyDue := true }, { good with st := .failed, verifyDue := true }⟩ }
    s.power = true ∧ (s.tracker .B).st = .verifying ∧ (s.tracker .B).verifyDue = true ∧ s.onAir .B = false ∧
      s.onAir .A = true ∧ s.sw.takes = [] ∧ decide103 .A .slip s ≠ .requested ∧ (s.tracker .A).beatDue = true ∧
      (s.tracker .A).balance = -8 ∧ decide103 .A .beat s ≠ .requested ∧ (s.tracker .C).st = .failed ∧ s.onAir .C = false := by
  decide

/-- A verify expiry on air in VERIFYING and in FAILED, and a fall of the balance to −9, all REQUESTED in a quiet run. -/
theorem witness_trackerRequested :
    let s (st : TrackerSt) : State :=
      { rolling with
        settings := { rolling.settings with threshold := 4 }
        trackers := { rolling.trackers with a := { good with st, verifyDue := true, beatDue := true, balance := -8 } } }
    (s .verifying).Quiet ∧ (s .failed).Quiet ∧ (s .verifying).onAir .A = true ∧ decide103 .A .slip (s .verifying) = .requested ∧
      decide103 .A .slip (s .failed) = .requested ∧ ((s .failed).tracker .A).st = .failed ∧
      decide103 .A .beat (s .verifying) = .requested ∧ ((s .verifying).tracker .A).verifyDue = true :=
  ⟨quiet_of _ rfl rfl (by decide) (by decide), quiet_of _ rfl rfl (by decide) (by decide), by decide, by decide, by decide, rfl,
    by decide, rfl⟩

/-- R104: the beat expiry taken first, the verify expiry of the same boundary finds FAILED and adds SLIP. -/
theorem test_beat_then_verify :
    let s : State :=
      { rolling with
        trackers := { rolling.trackers with
          a := { good with st := .verifying, verifyDue := true, beatDue := true, balance := -8 } } }
    let t := after (.verifyCountdownExpiry .A) (after (.beatIntervalExpiry .A) s)
    (t.tracker .A).st = .failed ∧ (t.tracker .A).causes = ⟨false, true, true⟩ := by decide

/-- R119: the RECOVER service clears the mark of a PINNED group on its target too. -/
theorem test_recover_pinned :
    let s : State := { rolling with groups := rolling.groups.map fun g => { g with uncovered := true } }
    s.groups.map (·.gdef.follow) = [.follow, .pinned] ∧ (clearUncovered .A s).groups.map (·.uncovered) = [false, false] := by decide

/-- Each of the request decision's outcomes, a request that is picked, and a target. -/
theorem witness_arbitration :
    let s : State := { rolling with arb := ⟨[⟨1, .A, .stall, 0⟩], []⟩ }
    parked.tr.st ≠ .rolling ∧ rolling.tr.st = .rolling ∧ decide103 .A .stall rolling = .requested ∧
      decide103 .B .stall rolling = .advisoryGroup ∧ decide103 .A .beat rolling = .advisoryLevel ∧
      (chooseRequest s).isSome = true ∧ chooseTarget s (some .A) [] = some .B := by decide

/-- One request that is stale, that waits outside ROLLING, that waits for the level in service, and that is served. -/
theorem witness_examination :
    let q : Request := ⟨1, .A, .stall, 0⟩
    let s (st : TrackerSt) (inService : List (Nat × Nat)) : State :=
      { rolling with arb := ⟨[q], inService⟩, trackers := { rolling.trackers with a := { good with st } } }
    (s .failed []).arb.requests = [q] ∧ q.cause ≠ .manual ∧ ((s .ready []).tracker .A).st ≠ .failed ∧
      (∃ g ∈ (s .failed []).groups, g.gdef.follow = .follow ∧ g.source = .rig .A) ∧
      ((s .failed []).tracker .A).st = .failed ∧ (∃ x ∈ (s .failed [(1, 3)]).arb.inService, x.1 ≤ q.level) ∧
      State.Quiet { s .failed [] with arb := { (s .failed []).arb with requests := [] } } ∧
      (∃ g ∈ parked.groups, g.gdef.follow = .follow ∧ g.source ≠ .fallback) ∧
      (∃ g ∈ idle.groups, g.gdef.follow = .follow ∧ g.source = .fallback) :=
  ⟨rfl, by decide, by decide, by decide, rfl, by decide, quiet_of _ rfl rfl (by decide) (by decide), by decide, by decide⟩

/-- A LINK service takes the group of an open MANUAL take that waits, and one that has started, before and at its ramp end. -/
theorem witness_supersede :
    let o : OpenOrder := ⟨0, .link, .A, .fallback, [(1, .rig .A)]⟩
    let s := taking (takeOf .blending .ramp none)
    s.sw.takes = [takeOf .blending .ramp none] ∧ s.sw.next < 256 ∧ (takeOf .blending .ramp none).due ≠ some .rampEnd ∧
      (o.members.map (·.1)).Nodup ∧ (s.groups.map (·.num)).Nodup ∧ o.level ≤ 4 ∧
      (∀ l ∈ (takeOf .blending .ramp none).levels, l ≤ 4) ∧
      (∃ m ∈ (takeOf .blending .ramp none).members, m.group ∈ o.members.map (·.1)) ∧
      (takeOf .waiting .outgoing none).st ≠ .blending ∧ (takeOf .blending .ramp (some .rampEnd)).st = .blending ∧
      (takeOf .blending .ramp (some .rampEnd)).due = some .rampEnd := by decide

/-- R132, R139, R140, R147: a supersede of one of two RAMP members after the ramp's last frame and before its boundary leaves the
take BLENDING; once the ramp end is due it is SETTLING, and nothing is snapped. -/
theorem test_supersede_at_ramp_end :
    let s (due : Option TakeStep) : State :=
      { taking { takeOf .blending .ramp due with
          ramp := 512, engine := some false, members := [⟨1, .rig .A, .blend, .ramp⟩, ⟨2, .rig .A, .blend, .ramp⟩] } with
        desk := { Desk.reset with line := .reply } }
    let t (due : Option TakeStep) := openTake ⟨0, .link, .A, .fallback, [(1, .rig .A)]⟩ (s due)
    let left (due : Option TakeStep) := (t due).sw.takes.head?.map fun u => (u.st, u.engine, u.settleCount)
    let first (due : Option TakeStep) := (t due).desk.notices.head?.map (·.body)
    left none = some (.blending, some false, 0) ∧ left (some .rampEnd) = some (.settling, none, 64) ∧
      first none = some (.takeSnapped 3 .supersede [1] 511 4 .blending) ∧
      first (some .rampEnd) = some (.takeBegun 4 .link [0] .fallback [⟨1, .rig .B, .cut, .outgoing⟩] [3] false []) := by decide

/-- For TAKE in each transport state, taken and refused. -/
theorem witness_take : rolling.Listening ∧ rolling.tr.st = .rolling ∧ rolling.sw.takes = [] ∧ rolling.arb.inService = [] ∧
    (rolling.tracker .B).st = .ready ∧ (rolling.tracker .C).st ≠ .ready ∧ ([1, 2] : List Nat).Nodup ∧
    (∀ n ∈ [1, 2], ∃ g ∈ rolling.groups, g.num = n) ∧ (rolling.groups.map (·.num)).Nodup ∧ rolling.sw.next < 256 ∧
    (∃ g ∈ rolling.groups, g.num ∈ [1, 2] ∧ g.source ≠ .rig .B) ∧ (∀ g ∈ rolling.groups, g.num ∈ [1, 2] → g.source = .rig .A) ∧
    (parked.tracker .B).st ≠ .excluded ∧ (parked.port .B).link = .locked ∧ (State.reset.port .B).link ≠ .locked ∧
    (taking (takeOf .waiting .outgoing none)).arb.inService ≠ [] ∧ (∀ g ∈ parked.groups, g.num ≠ 3) :=
  ⟨rolling_listening, rfl, rfl, rfl, rfl, by decide, by decide, by decide, by decide, by decide, by decide, by decide, by decide, rfl,
    by decide, by decide, by decide⟩

theorem witness_setGroup : parked.Listening ∧ parked.tr.st = .parked ∧ parked.cond.Settled ∧ GroupsSafe parked.groups ∧
    ¬(∃ g ∈ parked.groups, g.num ≠ 2 ∧ g.gdef.first ≤ 64 ∧ 33 ≤ g.gdef.last) ∧
    (∃ g ∈ parked.groups, g.num ≠ 2 ∧ g.gdef.first ≤ 64 ∧ 32 ≤ g.gdef.last) ∧ 2 ≤ parked.groups.length ∧
    idle.groups.length = 1 :=
  ⟨parked_listening, rfl, idle_settled, ⟨by decide, by decide, by decide, by decide, by decide⟩, by decide, by decide, by decide, rfl⟩

/-- For TAKE_START with no engine held, with one held, and with both held. -/
theorem witness_takeStart :
    let t := takeOf .waiting .outgoing (some .start)
    let u : Take := { takeOf .blending .ramp none with num := 1, engine := some false, ramp := 10 }
    let v : Take := { takeOf .blending .ramp none with num := 2, engine := some true, ramp := 10, startFrame := 64 }
    let s : State := { rolling with sw := ⟨[u, v, t], 4⟩ }
    s.power = true ∧ (s.sw.takes.map (·.num)).Nodup ∧ t ∈ s.sw.takes ∧ t.st = .waiting ∧ t.due = some .start ∧
      (∃ m ∈ t.members, m.stage = .outgoing ∧ m.mode = .blend) ∧ u.rampDone = false ∧ v.rampDone = false ∧
      (∀ x ∈ s.sw.takes, x.st = .blending → x = u ∨ x = v) ∧ 0 ≤ frameDiff v.startFrame u.startFrame := by decide

/-- For TAKE_START while the take that holds engine 0 has output its whole ramp, and while the one that holds engine 1 has. -/
theorem witness_takeStartRampDone :
    let t := takeOf .waiting .outgoing (some .start)
    let u (e : Bool) (ramp : Nat) : Take :=
      { takeOf .blending .ramp (some .rampEnd) with num := if e then 2 else 1, engine := some e, ramp }
    let s (r0 r1 : Nat) : State := { rolling with sw := ⟨[u false r0, u true r1, t], 4⟩ }
    (s 512 10).sw.takes.find? (fun x => x.engine == some false) = some (u false 512) ∧
      (u false 512).blendLength ≤ (u false 512).ramp ∧ (u false 10).rampDone = false ∧ (u true 512).st = .blending ∧
      (∀ x ∈ (s 10 512).sw.takes, x.engine = some true → x = u true 512) ∧
      (after (.takeStart 3) (s 512 10)).sw.takes.map (·.engine) = [none, some true, some false] ∧
      (after (.takeStart 3) (s 10 512)).sw.takes.map (·.engine) = [some false, none, some true] := by decide

/-- For TAKE_START of take 3 while take 1's start is due. -/
theorem witness_takeStartOrder :
    let t := takeOf .waiting .outgoing (some .start)
    let p : Take := { t with num := 1, levels := [1], members := [⟨2, .rig .A, .cut, .outgoing⟩] }
    let s : State := { rolling with sw := ⟨[p, t], 4⟩, arb := ⟨[], [(1, 1), (4, 3)]⟩ }
    t ∈ s.sw.takes ∧ p ∈ s.sw.takes ∧ p.num < t.num ∧ p.due = some .start ∧ s.ServiceSafe ∧
      (∀ x ∈ s.sw.takes, x.st = .waiting → x.due = some .start → p.num ≤ x.num) ∧
      (after (.takeStart 3) s).sw.takes.map (·.st) = [.settling, .blending] :=
  ⟨by decide, by decide, by decide, rfl, ⟨by decide, by decide, by decide, by decide, by decide, by decide, by decide⟩,
    by decide, by decide⟩

/-- For a fault of an open take's target, the take WAITING and started, and the rig it would leave READY or FAILED. -/
theorem witness_spoil :
    let s (st : TakeSt) (x : TrackerSt) : State :=
      { taking (takeOf st .outgoing none) with trackers := { rolling.trackers with a := { good with st := x } } }
    (s .waiting .ready).sw.takes = [takeOf .waiting .outgoing none] ∧ (takeOf .waiting .outgoing none).target = .rig .B ∧
      (s .waiting .ready).arb.requests = [] ∧ ((takeOf .waiting .outgoing none).members.map (·.group)).Nodup ∧
      (s .waiting .ready).tr.st = .rolling ∧ ((s .waiting .ready).tracker .A).st = .ready ∧
      ((s .waiting .failed).tracker .A).st = .failed ∧ (s .blending .ready).tr.st = .rolling := by decide

theorem witness_takeEnds :
    let s := taking (takeOf .settling .incoming (some .settleEnd))
    s.power = true ∧ (s.sw.takes.map (·.num)).Nodup ∧ takeOf .settling .incoming (some .settleEnd) ∈ s.sw.takes ∧
      s.arb.requests = [] ∧ ((takeOf .settling .incoming (some .settleEnd)).members.map (·.group)).Nodup ∧
      takeOf .blending .ramp (some .rampEnd) ∈ (taking (takeOf .blending .ramp (some .rampEnd))).sw.takes := by decide

/-- R141, R112: at a settle end with requests pending the member's group is on the target when they are examined, so that the
request of the rig that lost it is gone, and TAKE_SETTLED comes before what the examination raises. -/
theorem test_settle_end_requests :
    let s : State :=
      { taking (takeOf .settling .incoming (some .settleEnd)) with
        trackers := { rolling.trackers with b := { good with st := .failed, causes := ⟨true, false, false⟩ }, c := good }
        arb := ⟨[⟨1, .A, .stall, 0⟩, ⟨1, .B, .stall, 0⟩], [(4, 3)]⟩, desk := { Desk.reset with line := .reply } }
    let t := after (.settleEnd 3) s
    t.groups.map (·.source) = [.rig .B, .rig .A] ∧ t.arb = ⟨[], [(1, 4)]⟩ ∧
      t.desk.notices.map (·.body) =
        [.takeSettled 3 .settled .manual (.rig .B) [4] none (some 1) [(1, .rig .B)],
          .takeBegun 4 .stall [1] (.rig .A) [⟨1, .rig .B, .blend, .outgoing⟩] [] false []] := by decide

/-- For TAKE_WAIT_EXPIRY of a STALL take with another rig to go to, of a LINK take with none, and of a MANUAL take. -/
theorem witness_takeWait :
    let t : Take := { takeOf .waiting .outgoing (some .waitExpiry) with cause := .stall, rig := .A, target := .rig .C }
    let l : Take := { takeOf .waiting .outgoing (some .waitExpiry) with cause := .link, rig := .A }
    let s := taking t
    s.power = true ∧ (s.sw.takes.map (·.num)).Nodup ∧ t ∈ s.sw.takes ∧ t.st = .waiting ∧ t.target = .rig .C ∧
      t.due = some .waitExpiry ∧ chooseTarget s (some t.rig) [.C] = some .B ∧ chooseTarget (taking l) (some l.rig) [.B] = none ∧
      l.cause = .link ∧ (takeOf .waiting .outgoing (some .waitExpiry)).cause = .manual ∧
      ∀ m ∈ (takeOf .waiting .outgoing (some .waitExpiry)).members, m.stage = .outgoing := by decide

/-- For the no-cover of a STALL, a RECOVER and a MANUAL take, no rig but the dropped one being READY. -/
theorem witness_takeNoCover :
    let t (c : Cause) : Take := { takeOf .waiting .outgoing (some .waitExpiry) with cause := c, rig := .A }
    let s (c : Cause) : State := taking (t c)
    ∀ c ∈ [Cause.stall, .recover, .manual], (s c).sw.takes = [t c] ∧ (t c).target = .rig .B ∧
      (t c).due = some .waitExpiry ∧ (t c).cause ≠ .link ∧ chooseTarget (s c) (some (t c).rig) [.B] = none ∧
      (s c).arb.requests = [] ∧ ((t c).members.map (·.group)).Nodup ∧ ((s c).groups.map (·.num)).Nodup := by decide

/-- R134, R141: the INCOMING member of a RECOVER no-cover is completed and its mark cleared; the other keeps its mark. -/
theorem test_recover_no_cover_marks :
    let t : Take :=
      { takeOf .waiting .outgoing (some .waitExpiry) with
        cause := .recover, rig := .A, target := .rig .B
        members := [⟨1, .rig .B, .blend, .incoming⟩, ⟨2, .rig .A, .cut, .outgoing⟩] }
    let s : State :=
      { taking t with groups := rolling.groups.map fun g =>
          { g with uncovered := true, source := if g.num = 1 then .rig .B else .rig .A } }
    (after (.takeWaitExpiry 3) s).groups.map (·.uncovered) = [false, true] := by decide

theorem witness_blend : 0 < 512 ∧ 511 < 512 := by decide

theorem witness_outputFrame : rolling.power = true ∧ rolling.phase < 32 ∧ rolling.NothingDue ∧
    32 ≤ { rolling with phase := 32 }.phase ∧
    (∀ g ∈ rolling.groups, ∀ h ∈ rolling.groups, h.gdef.first ≤ 32 → 32 ≤ h.gdef.last → g.gdef.first ≤ 32 → 32 ≤ g.gdef.last →
      h = g) ∧ (takeOf .blending .ramp none).ramp < (takeOf .blending .ramp none).blendLength :=
  ⟨rfl, by decide, rolling_nothing_due, by decide, by decide, by decide⟩

/-- R162: OUTPUT_FRAME forms the running message at a frame offset that is a multiple of q, and none at the next frame. -/
theorem test_output_frame_message :
    let s (phase : Nat) : State :=
      { rolling with
        phase, tr := { rolling.tr with house := some ⟨1, 60, 0⟩ }, tc := { rolling.tc with sending := none } }
    ((after .outputFrame (s 0)).tc.sending.map (·.running)) = some true ∧ (after .outputFrame (s 1)).tc.sending = none := by
  decide

theorem witness_timecode :
    let s := { rolling with tr := { rolling.tr with house := some ⟨1, 60, 0⟩ }, tc := { rolling.tc with heldDue := true } }
    s.tr.house = some ⟨1, 60, 0⟩ ∧ s.setList[1]? = some secondEntry ∧ secondEntry.timecode = some ⟨⟨1, 2, 59, 20⟩, 25⟩ ∧
      firstEntry.timecode = none ∧ rolling.setList[0]? = some firstEntry ∧ State.reset.tr.house = none ∧
      s.tr.st = .rolling ∧ s.tr.heard = true ∧
      (60 * 32 + s.phase) % (s.settings.rate.frames / 25) = 0 ∧ s.power = true ∧ s.tc.heldDue = true := by decide

/-- The click of a present grid, at a frame after its downbeat, and none without a grid. -/
theorem witness_clickGrid :
    let s : State := { rolling with grid := some ⟨24000, 4, 0, 960⟩, tr := { rolling.tr with house := some ⟨0, 0, 0⟩ } }
    s.grid = some ⟨24000, 4, 0, 960⟩ ∧ s.tr.house = some ⟨0, 0, 0⟩ ∧ rolling.grid = none ∧ clickSample s = 1048576 := by decide

theorem witness_click : 0 < 12800 ∧ 0 < 22500 ∧ 22499 < 22500 ∧ 90500 = 0 + 4 * 22500 + 500 ∧ 960 ≤ 960 ∧ 959 < 960 := by decide

end Sys2Proof.Tests
end

section
/-! SUPPORT. SET ENTRY, DROP ENTRY and CLEAR SET (chapter 1): check 5 of R6 on an entry's fields, what an edit report leaves
of what the Reply shows, the case that each command's checks decide, and the settled statements. -/

namespace Sys2Proof.Machine

/-! ## Check 5 of R6 -/

theorem checkVamp_isSome (f : EntryFields) :
    (checkVamp f.length f.vampIn f.vampOut f.passLimit).isSome = true ↔ f.VampValid := by
  unfold EntryFields.VampValid
  rcases f.vampIn with _ | i <;> rcases f.vampOut with _ | o <;> rcases f.passLimit with _ | p <;> simp [checkVamp]

theorem checkTempo_isSome (f : EntryFields) :
    (checkTempo f.length f.tempo f.beats f.downbeat).isSome = true ↔ f.TempoValid := by
  unfold EntryFields.TempoValid
  rcases f.tempo with _ | t <;> rcases f.beats with _ | b <;> rcases f.downbeat with _ | d <;> simp [checkTempo]

theorem checkTimecode_isSome (f : EntryFields) : (checkTimecode f.tcStart f.tcRate).isSome = true ↔ f.TimecodeValid := by
  unfold EntryFields.TimecodeValid
  rcases f.tcStart with _ | v <;> rcases f.tcRate with _ | r <;> simp [checkTimecode]

/-- What check 5 answers is put together from the answers for the three parts. -/
theorem checkEntry_eq_some_iff {f : EntryFields} {x : SegmentEntry} :
    checkEntry f = some x ↔ (1 ≤ f.code ∧ f.code ≤ 999 ∧ 16 ≤ f.length ∧ f.length ≤ 4194303) ∧
      ∃ v t c, checkVamp f.length f.vampIn f.vampOut f.passLimit = some v ∧
        checkTempo f.length f.tempo f.beats f.downbeat = some t ∧ checkTimecode f.tcStart f.tcRate = some c ∧
        x = ⟨f.code, f.length, f.endAction, v, t, c⟩ := by
  unfold checkEntry
  split
  · rename_i ranges
    split
    · rename_i v t c hv ht hc
      simp [ranges, hv, ht, hc, eq_comm]
    · rename_i h
      simp only [reduceCtorEq, false_iff]
      rintro ⟨-, v, t, c, hv, ht, hc, -⟩
      exact h v t c hv ht hc
  · rename_i ranges
    simp [ranges]

/-- Check 5 passes exactly the fields that R2 to R5 allow. -/
theorem checkEntry_isSome (f : EntryFields) : (checkEntry f).isSome = true ↔ f.Valid := by
  simp only [Option.isSome_iff_exists, checkEntry_eq_some_iff, EntryFields.Valid, ← checkVamp_isSome, ← checkTempo_isSome,
    ← checkTimecode_isSome]
  constructor
  · rintro ⟨x, ⟨h1, h2, h3, h4⟩, v, t, c, hv, ht, hc, -⟩
    exact ⟨h1, h2, h3, h4, ⟨v, hv⟩, ⟨t, ht⟩, ⟨c, hc⟩⟩
  · rintro ⟨h1, h2, h3, h4, ⟨v, hv⟩, ⟨t, ht⟩, ⟨c, hc⟩⟩
    exact ⟨_, ⟨h1, h2, h3, h4⟩, v, t, c, hv, ht, hc, rfl⟩

theorem checkEntry_eq_none {f : EntryFields} (h : ¬f.Valid) : checkEntry f = none := by
  simpa [← checkEntry_isSome] using h

theorem checkEntry_code {f : EntryFields} {x : SegmentEntry} (h : checkEntry f = some x) : x.code = f.code := by
  obtain ⟨-, v, t, c, -, -, -, rfl⟩ := checkEntry_eq_some_iff.1 h
  rfl

theorem checkVamp_fields {l : Nat} {v : Option Vamp} {w : Option Vamp}
    (h : checkVamp l (v.map (·.vampIn)) (v.map (·.vampOut)) (v.bind (·.passLimit)) = some w) : w = v := by
  cases v with
  | none => simpa [checkVamp, eq_comm] using h
  | some v => exact (Option.some.inj (Option.ite_none_right_eq_some.1 h).2).symm

theorem checkTempo_fields {l : Nat} {v : Option Tempo} {w : Option Tempo}
    (h : checkTempo l (v.map (·.tempo)) (v.map (·.beats)) (v.map (·.downbeat)) = some w) : w = v := by
  cases v with
  | none => simpa [checkTempo, eq_comm] using h
  | some v => exact (Option.some.inj (Option.ite_none_right_eq_some.1 h).2).symm

theorem checkTimecode_fields {v : Option TcPart} {w : Option TcPart}
    (h : checkTimecode (v.map (·.start)) (v.map (·.rate)) = some w) : w = v := by
  cases v with
  | none => simpa [checkTimecode, eq_comm] using h
  | some v => exact (Option.some.inj (Option.ite_none_right_eq_some.1 h).2).symm

/-- Check 5 gives back the entry that the fields were read from. -/
theorem checkEntry_fields {e : SegmentEntry} (h : e.fields.Valid) : checkEntry e.fields = some e := by
  obtain ⟨x, hx⟩ := Option.isSome_iff_exists.1 ((checkEntry_isSome _).2 h)
  obtain ⟨-, v, t, c, hv, ht, hc, rfl⟩ := checkEntry_eq_some_iff.1 hx
  obtain rfl := checkVamp_fields hv
  obtain rfl := checkTempo_fields ht
  obtain rfl := checkTimecode_fields hc
  exact hx

/-! ## The other checks -/

/-- Check 6 of R6. -/
theorem codeElsewhere_eq_true {l : List SegmentEntry} {index code : Nat} :
    codeElsewhere l index code = true ↔ ∃ (j : Nat) (e : SegmentEntry), j ≠ index ∧ l[j]? = some e ∧ e.code = code := by
  simp only [codeElsewhere, List.any_eq_true, Prod.exists, List.mem_zipIdx_iff_getElem?, Bool.and_eq_true, beq_iff_eq,
    Bool.not_eq_true', beq_eq_false_iff_ne]
  constructor
  · rintro ⟨e, j, he, hc, hj⟩
    exact ⟨j, e, hj, he, hc⟩
  · rintro ⟨j, e, hj, he, hc⟩
    exact ⟨e, j, he, hc, hj⟩

theorem State.running_eq_true {s : State} : s.running = true ↔ ¬s.Stopped := by
  simp [State.running, State.Stopped, imp_iff_not_or]

theorem State.editBusy_eq_false {s : State} : s.editBusy = false ↔ s.Stopped ∧ s.cond.Settled := by
  rw [State.editBusy, Bool.or_eq_false_iff, StoreCond.isWriting_eq_false, ← Bool.not_eq_true, State.running_eq_true, not_not]

theorem State.editBusy_of_running {s : State} (h : ¬s.Stopped) : s.editBusy = true := by
  simp [State.editBusy, State.running_eq_true.2 h]

theorem State.editBusy_of_writing {s : State} (h : ¬s.cond.Settled) : s.editBusy = true := by
  simp [State.editBusy, StoreCond.isWriting_eq_true.2 h]

/-! ## What an edit report leaves -/

/-- What the Reply to a set-list class Command depends on: the three fields of its summary, and the reply queue that the
Reply joins (R172, R174). -/
def State.replyBasis (s : State) : List SegmentEntry × StoreCond × Bool × List Reply :=
  (s.setList, s.cond, s.unstored, s.desk.replies)

@[simp] theorem State.onTr_replyBasis (f : Transport → Transport) (s : State) : (s.onTr f).replyBasis = s.replyBasis := rfl

@[simp] theorem State.onTc_replyBasis (f : Timecode → Timecode) (s : State) : (s.onTc f).replyBasis = s.replyBasis := rfl

@[simp] theorem raiseTransport_replyBasis (r : TransportReason) (s : State) :
    (raiseTransport r s).replyBasis = s.replyBasis := by
  simp [raiseTransport, State.replyBasis]

@[simp] theorem clearCued_replyBasis (r : Rig) (s : State) : (clearCued s r).replyBasis = s.replyBasis := by
  unfold clearCued
  split
  · simp [raiseRigState, State.replyBasis]
  · rfl

@[simp] theorem clearAllCued_replyBasis (s : State) : (clearAllCued s).replyBasis = s.replyBasis := by
  simp [clearAllCued, Rig.all]

/-- The arbiter's and the switch controller's work keeps it. -/
theorem ArbiterWork.replyBasis {s t : State} (h : ArbiterWork s t) : t.replyBasis = s.replyBasis := by
  simp [State.replyBasis, h.setList, h.cond, h.unstored, h.replies]

@[simp] theorem placeAll_replyBasis (src : Source) (s : State) : (placeAll src s).replyBasis = s.replyBasis :=
  (ArbiterWork.writeGroups (map_defs (f := Group.place src) (fun _ => ⟨rfl, rfl⟩) _)).replyBasis

@[simp] theorem goIdle_replyBasis (s : State) : (goIdle s).replyBasis = s.replyBasis := by
  simp [goIdle]

@[simp] theorem resolveTo_replyBasis (st : TState) (p : Pos) (s : State) : (resolveTo st p s).replyBasis = s.replyBasis := by
  simp [resolveTo]

@[simp] theorem resolveAt_replyBasis (e : Edit) (p : Pos) (s : State) : (resolveAt e p s).replyBasis = s.replyBasis := by
  unfold resolveAt
  split
  · simp
  · split
    · simp
    · split <;> simp

/-- Every outcome of the re-resolution keeps it (R40). -/
@[simp] theorem editReport_replyBasis (e : Edit) (s : State) : (editReport e s).replyBasis = s.replyBasis := by
  unfold editReport
  split
  · split <;> simp
  · rfl

/-! ## The outcome of an edit Command -/

theorem StoreCond.noted_of_settled {c : StoreCond} (h : c.Settled) : c.noted = c := by
  cases c with
  | writing x b => exact absurd rfl (h x b)
  | valid => rfl
  | invalid => rfl

/-- An edit made with no store operation in flight leaves the store condition. -/
theorem edited_of_settled {s : State} (e : Edit) (l : List SegmentEntry) (h : s.cond.Settled) :
    edited e l s = editReport e { s with setList := l, unstored := true } := by
  rw [edited, markUnstored_eq]
  simp only [StoreCond.noted_of_settled h]

/-- A Command that edits is answered ACCEPTED, with the summary of the set list it has left (R7 to R10). -/
theorem event_command_edited {k : Byte} {w : State → State × Result} {s : State} {e : Edit} {l : List SegmentEntry}
    (h : s.Listening) (hc : s.cond.Settled) (hw : w s = (edited e l s, .accepted)) :
    event (command k .setList w) s =
      (editReport e { s with setList := l, unstored := true }).answered k .accepted (.setList l.length s.cond.code true) := by
  rw [edited_of_settled e l hc] at hw
  have kept := editReport_replyBasis e { s with setList := l, unstored := true }
  simp only [State.replyBasis, Prod.mk.injEq] at kept
  obtain ⟨setList, cond, unstored, replies⟩ := kept
  rw [event_command h (by rw [hw]; exact replies.trans h.2), hw]
  simp only [summaryOf_setList, State.setListSummary, setList, cond, unstored]

/-! ## SET ENTRY (R6, R7, R8) -/

section
variable {index : Nat} {f : EntryFields} {s : State} {r : Result}

theorem exec_setEntry_refused (h : s.Listening) (hw : setEntryWork index f s = (s, r)) :
    exec (.setEntry index f) s = .next (s.answered 0x10 r s.setListSummary) :=
  congrArg Host.Outcome.next (event_command_same h hw)

theorem setEntryWork_busy (h : s.editBusy = true) : setEntryWork index f s = (s, .busy) := by
  simp [setEntryWork, h]

theorem setEntryWork_beyond (h : s.editBusy = false) (hi : s.setList.length < index) :
    setEntryWork index f s = (s, .badValue) := by
  simp [setEntryWork, h, hi]

theorem setEntryWork_full (h : s.editBusy = false) (hi : index = s.setList.length) (hm : index = 48) :
    setEntryWork index f s = (s, .full) := by
  simp [setEntryWork, h, ← hi, hm, Config.maxEntries]

/-- Past checks 1 to 4, the fields and the code decide. -/
theorem setEntryWork_inRange (h : s.editBusy = false) (hi : index ≤ s.setList.length)
    (hm : ¬(index = s.setList.length ∧ index = 48)) :
    setEntryWork index f s =
      (checkEntry f).elim (s, .badValue) fun e =>
        if codeElsewhere s.setList index e.code then (s, .duplicate)
        else if index = s.setList.length then (edited (.append index) (s.setList ++ [e]) s, .accepted)
        else (edited (.replace index) (s.setList.set index e) s, .accepted) := by
  have room : ¬(index = s.setList.length ∧ s.setList.length = Config.maxEntries) := fun ⟨hl, hc⟩ => hm ⟨hl, hl.trans hc⟩
  simp only [setEntryWork, h, Bool.false_eq_true, if_false, if_neg (Nat.not_lt.2 hi), if_neg room]
  cases checkEntry f <;> rfl

end

/-- Settles O19: the conditions of the statement select the branches of SET ENTRY's work one by one. -/
theorem setEntryRefused : Obligations.SetEntryRefused := by
  intro index f s listening
  refine ⟨fun running => exec_setEntry_refused listening (setEntryWork_busy (State.editBusy_of_running running)),
    fun writing => exec_setEntry_refused listening (setEntryWork_busy (State.editBusy_of_writing writing)),
    fun stopped settled => ?_⟩
  have idle := State.editBusy_eq_false.2 ⟨stopped, settled⟩
  refine ⟨fun beyond => exec_setEntry_refused listening (setEntryWork_beyond idle beyond),
    fun atCount full => exec_setEntry_refused listening (setEntryWork_full idle atCount full),
    fun within room => ⟨fun invalid => exec_setEntry_refused listening ?_,
      fun valid elsewhere => exec_setEntry_refused listening ?_⟩⟩
  · rw [setEntryWork_inRange idle within room, checkEntry_eq_none invalid, Option.elim_none]
  · obtain ⟨e, he⟩ := Option.isSome_iff_exists.1 ((checkEntry_isSome f).2 valid)
    have duplicate : codeElsewhere s.setList index e.code = true :=
      codeElsewhere_eq_true.2 (checkEntry_code he ▸ elsewhere)
    rw [setEntryWork_inRange idle within room, he, Option.elim_some, if_pos duplicate]

/-- Past every check, the entry that the fields were read from is appended at index count and replaces below it. -/
theorem setEntryWork_taken {index : Nat} {e : SegmentEntry} {s : State} (idle : s.editBusy = false)
    (within : index ≤ s.setList.length) (room : ¬(index = s.setList.length ∧ index = 48)) (valid : e.fields.Valid)
    (unique : ∀ (j : Nat) (x : SegmentEntry), s.setList[j]? = some x → x.code = e.code → j = index) :
    setEntryWork index e.fields s =
      if index = s.setList.length then (edited (.append index) (s.setList ++ [e]) s, .accepted)
      else (edited (.replace index) (s.setList.set index e) s, .accepted) := by
  have fresh : ¬codeElsewhere s.setList index e.code = true := by
    rw [codeElsewhere_eq_true]
    rintro ⟨j, x, hj, hx, hcode⟩
    exact hj (unique j x hx hcode)
  rw [setEntryWork_inRange idle within room, checkEntry_fields valid, Option.elim_some, if_neg fresh]

/-- Settles O20: past the checks the work is an edit, and its Reply shows what the edit report kept. -/
theorem setEntryTaken : Obligations.SetEntryTaken := by
  intro index e s listening stopped settled valid unique
  have idle := State.editBusy_eq_false.2 ⟨stopped, settled⟩
  refine ⟨fun atCount room => ?_, fun below => ?_⟩
  · have taken := setEntryWork_taken idle (Nat.le_of_eq atCount) (fun full => room full.2) valid unique
    rw [if_pos atCount] at taken
    have ended := event_command_edited (k := 0x10) listening settled taken
    rw [List.length_append] at ended
    exact congrArg Host.Outcome.next ended
  · have taken := setEntryWork_taken idle (Nat.le_of_lt below) (fun full => Nat.ne_of_lt below full.1) valid unique
    rw [if_neg (Nat.ne_of_lt below)] at taken
    have ended := event_command_edited (k := 0x10) listening settled taken
    rw [List.length_set] at ended
    exact congrArg Host.Outcome.next ended

/-! ## DROP ENTRY and CLEAR SET (R9, R10) -/

section
variable {index : Nat} {s : State} {r : Result}

theorem exec_dropEntry_refused (h : s.Listening) (hw : dropEntryWork index s = (s, r)) :
    exec (.dropEntry index) s = .next (s.answered 0x11 r s.setListSummary) :=
  congrArg Host.Outcome.next (event_command_same h hw)

theorem dropEntryWork_busy (h : s.editBusy = true) : dropEntryWork index s = (s, .busy) := by
  simp [dropEntryWork, h]

theorem dropEntryWork_beyond (h : s.editBusy = false) (hi : s.setList.length ≤ index) :
    dropEntryWork index s = (s, .badValue) := by
  simp [dropEntryWork, h, hi]

theorem dropEntryWork_taken (h : s.editBusy = false) (hi : index < s.setList.length) :
    dropEntryWork index s = (edited (.drop index) (s.setList.eraseIdx index) s, .accepted) := by
  simp [dropEntryWork, h, hi]

theorem exec_clearSet_unchanged (h : s.Listening) (hw : clearSetWork s = (s, r)) :
    exec .clearSet s = .next (s.answered 0x12 r s.setListSummary) :=
  congrArg Host.Outcome.next (event_command_same h hw)

theorem clearSetWork_busy (h : s.editBusy = true) : clearSetWork s = (s, .busy) := by
  simp [clearSetWork, h]

theorem clearSetWork_empty (h : s.editBusy = false) (hl : s.setList = []) : clearSetWork s = (s, .accepted) := by
  simp [clearSetWork, h, hl]

theorem clearSetWork_taken (h : s.editBusy = false) (hl : s.setList ≠ []) :
    clearSetWork s = (edited .clear [] s, .accepted) := by
  simp [clearSetWork, h, hl]

/-- A DROP ENTRY of an entry that stands in the set list closes the gap. -/
theorem exec_dropEntry_taken (listening : s.Listening) (stopped : s.Stopped) (settled : s.cond.Settled)
    (below : index < s.setList.length) :
    exec (.dropEntry index) s = .next ((editReport (.drop index)
      { s with setList := s.setList.take index ++ s.setList.drop (index + 1), unstored := true }).answered 0x11 .accepted
        (.setList (s.setList.length - 1) s.cond.code true)) := by
  have taken := dropEntryWork_taken (State.editBusy_eq_false.2 ⟨stopped, settled⟩) below
  have ended := event_command_edited (k := 0x11) listening settled taken
  rw [List.length_eraseIdx_of_lt below, List.eraseIdx_eq_take_drop_succ] at ended
  exact congrArg Host.Outcome.next ended

end

/-- Settles O21: each command by the branches of its work. -/
theorem dropAndClear : Obligations.DropAndClear := by
  refine ⟨fun index s listening => ?drop, fun s listening => ?clear⟩
  case drop =>
    exact ⟨fun running => exec_dropEntry_refused listening (dropEntryWork_busy (State.editBusy_of_running running)),
      fun writing => exec_dropEntry_refused listening (dropEntryWork_busy (State.editBusy_of_writing writing)),
      fun stopped settled =>
        ⟨fun beyond =>
          exec_dropEntry_refused listening (dropEntryWork_beyond (State.editBusy_eq_false.2 ⟨stopped, settled⟩) beyond),
        exec_dropEntry_taken listening stopped settled⟩⟩
  case clear =>
    refine ⟨fun running => exec_clearSet_unchanged listening (clearSetWork_busy (State.editBusy_of_running running)),
      fun writing => exec_clearSet_unchanged listening (clearSetWork_busy (State.editBusy_of_writing writing)),
      fun stopped settled => ?_⟩
    have idle := State.editBusy_eq_false.2 ⟨stopped, settled⟩
    exact ⟨fun empty => exec_clearSet_unchanged listening (clearSetWork_empty idle empty),
      fun entries => congrArg Host.Outcome.next
        (event_command_edited (k := 0x12) listening settled (clearSetWork_taken idle entries))⟩

end Sys2Proof.Machine
end

section
/-! SUPPORT. What one step can do, said once: the work of a desk Command, the work of an event, and the effect of a step as
one of these, put around by the desk port's own fields. Bytes on the desk link carry out the work of one Command at most. -/

namespace Sys2Proof.Machine

/-! ## The works -/

/-- The work that a desk Command hands to its owning block (R170). -/
inductive CommandWork : (State → State × Result) → Prop where
  | setEntry (index : Nat) (f : EntryFields) : CommandWork (setEntryWork index f)
  | dropEntry (index : Nat) : CommandWork (dropEntryWork index)
  | clearSet : CommandWork clearSetWork
  | storeShow : CommandWork storeShowWork
  | recallShow : CommandWork recallShowWork
  | arm : CommandWork armWork
  | disarm : CommandWork disarmWork
  | go : CommandWork (goWork .desk)
  | halt : CommandWork haltWork
  | locate (index offset : Nat) : CommandWork (locateWork index offset)
  | release : CommandWork (releaseWork .desk)
  | restart : CommandWork restartWork
  | take (rig : Source) (named : List Nat) : CommandWork (takeWork rig named)
  | exclude (rig : Source) : CommandWork (excludeWork rig)
  | admitRig (rig : Source) : CommandWork (admitWork rig)
  | setGroup (number : Nat) (d : Option GroupDef) : CommandWork (setGroupWork number d)
  | setRate (v : Nat) : CommandWork (setRateWork v)
  | setLead (v : Nat) : CommandWork (setLeadWork v)
  | setDebounce (v : Nat) : CommandWork (setDebounceWork v)
  | setTriggers (v : Triggers) : CommandWork (setTriggersWork v)
  | setVerify (v : Nat) : CommandWork (setVerifyWork v)
  | setSlipWindow (v : Nat) : CommandWork (setSlipWindowWork v)
  | setBeatInterval (v : Nat) : CommandWork (setBeatIntervalWork v)
  | setThreshold (v : Nat) : CommandWork (setThresholdWork v)
  | setRecover (v : Bool) : CommandWork (setRecoverWork v)
  | setBlend (v : Nat) : CommandWork (setBlendWork v)
  | setSettle (v : Nat) : CommandWork (setSettleWork v)
  | setPreference (rigs : List Source) : CommandWork (setPreferenceWork rigs)

/-- The work of an event of the house clock, the rig links, the takes, the code output port and the store. -/
inductive EventWork : (State → State) → Prop where
  | boundary (cue : Level) : EventWork (boundary cue)
  | startCountdown : EventWork startCountdown
  | cueDebounce : EventWork cueDebounce
  | verifyExpiry (r : Rig) : EventWork (verifyExpiry r)
  | beatExpiry (r : Rig) : EventWork (beatExpiry r)
  | formHeld : EventWork formHeld
  | rigMessage (r : Rig) (bytes : List Byte) : EventWork (rigMessage r bytes)
  | slotExpiry (r : Rig) : EventWork (slotExpiry r)
  | silenceLimit (r : Rig) : EventWork (silenceLimit r)
  | takeStart (n : Nat) : EventWork (takeStart n)
  | takeWaitExpiry (n : Nat) : EventWork (takeWaitExpiry n)
  | rampEnd (n : Nat) : EventWork (rampEnd n)
  | settleEnd (n : Nat) : EventWork (settleEnd n)
  | outputFrame : EventWork outputFrameWork
  | timeMessageEnd : EventWork (State.onTc endTimeMsg)
  | storeWriteEnd (damage : List (Nat × Byte)) : EventWork (storeWriteEndWork damage)
  | storeTimeout (written : Nat) : EventWork (storeTimeoutWork written)

/-! ## Commands at the reply queue (R172) -/

/-- What a Command does that the desk port has received: handed to its block when no Reply is queued, and otherwise
answered BUSY, or a query answered, which touches the reply queue and the count of free values alone. -/
inductive Handled (s : State) : State → Prop where
  | same : Handled s s
  | reply (r : Reply) (n : Nat) (room : s.desk.replies.length < 16) :
      Handled s (pushReply r { s with freeCount := n })
  | work {w : State → State × Result} (h : CommandWork w) (empty : s.desk.replies = []) (r : Reply) :
      Handled s (pushReply r (w s).1)

theorem gate_handled {k : Byte} {f : State → State} {s : State} (h : s.desk.replies = [] → Handled s (f s)) :
    Handled s (gate k f s) := by
  obtain ⟨empty, e⟩ | ⟨-, room, e⟩ | ⟨-, e⟩ := gate_cases k f s <;> rw [e]
  · exact h empty
  · exact .reply _ s.freeCount room
  · exact .same

theorem command_handled {k : Byte} {c : ReplyClass} {w : State → State × Result} (h : CommandWork w) (s : State) :
    Handled s (command k c w s) := gate_handled fun empty => .work h empty _

theorem pushReply_handled {r : Reply} {s : State} (empty : s.desk.replies = []) : Handled s (pushReply r s) :=
  .reply r s.freeCount (by simp [empty])

theorem query_handled (k : Byte) (f : State → Option QueryRecord) (s : State) : Handled s (query k f s) :=
  gate_handled fun empty => by split <;> exact pushReply_handled empty

theorem queryRig_handled (rig : Source) (s : State) : Handled s (cmdQueryRig rig s) :=
  gate_handled fun empty => by
    unfold queryRigWork
    split
    · exact pushReply_handled empty
    · split
      · exact pushReply_handled empty
      · exact .reply _ (s.freeCount + 1) (by simp [empty])

/-! ## Bytes on the desk link (R169 to R171) -/

theorem noFields_eq_some {work g : State → State} {p : List Byte} (h : noFields work p = some g) : g = work := by
  unfold noFields at h
  split at h
  · exact (Option.some.inj h).symm
  · cases h

theorem fieldsOf_eq_some {α : Type} {r : Reader α} {work : α → State → State} {p : List Byte} {g : State → State}
    (h : fieldsOf r work p = some g) : ∃ x, g = work x := by
  obtain ⟨x, -, hx⟩ := Option.map_eq_some_iff.1 h
  exact ⟨x, hx.symm⟩

theorem setListCommand_handled {k : Nat} {p : List Byte} {g : State → State} (h : setListCommand k p = some g)
    (s : State) : Handled s (g s) := by
  unfold setListCommand at h
  split at h
  · obtain ⟨x, rfl⟩ := fieldsOf_eq_some h; exact command_handled (.setEntry x.1 x.2) s
  · obtain ⟨x, rfl⟩ := fieldsOf_eq_some h; exact command_handled (.dropEntry x) s
  · rw [noFields_eq_some h]; exact command_handled .clearSet s
  · rw [noFields_eq_some h]; exact command_handled .storeShow s
  · rw [noFields_eq_some h]; exact command_handled .recallShow s
  · cases h

theorem transportCommand_handled {k : Nat} {p : List Byte} {g : State → State} (h : transportCommand k p = some g)
    (s : State) : Handled s (g s) := by
  unfold transportCommand at h
  split at h
  · rw [noFields_eq_some h]; exact command_handled .arm s
  · rw [noFields_eq_some h]; exact command_handled .disarm s
  · rw [noFields_eq_some h]; exact command_handled .go s
  · rw [noFields_eq_some h]; exact command_handled .halt s
  · obtain ⟨x, rfl⟩ := fieldsOf_eq_some h; exact command_handled (.locate x.1 (x.2.getD 0)) s
  · rw [noFields_eq_some h]; exact command_handled (.locate 0 0) s
  · rw [noFields_eq_some h]; exact command_handled .release s
  · rw [noFields_eq_some h]; exact command_handled .restart s
  · cases h

theorem sourceCommand_handled {k : Nat} {p : List Byte} {g : State → State} (h : sourceCommand k p = some g)
    (s : State) : Handled s (g s) := by
  unfold sourceCommand at h
  split at h
  · obtain ⟨x, rfl⟩ := fieldsOf_eq_some h; exact command_handled (.take x.1 x.2) s
  · obtain ⟨x, rfl⟩ := fieldsOf_eq_some h; exact command_handled (.exclude x) s
  · obtain ⟨x, rfl⟩ := fieldsOf_eq_some h; exact command_handled (.admitRig x) s
  · obtain ⟨x, rfl⟩ := fieldsOf_eq_some h; exact command_handled (.setGroup x.1 x.2) s
  · cases h

theorem settingsCommand_handled {k : Nat} {p : List Byte} {g : State → State} (h : settingsCommand k p = some g)
    (s : State) : Handled s (g s) := by
  unfold settingsCommand at h
  split at h
  · obtain ⟨x, rfl⟩ := fieldsOf_eq_some h; exact command_handled (.setRate x) s
  · obtain ⟨x, rfl⟩ := fieldsOf_eq_some h; exact command_handled (.setLead x) s
  · obtain ⟨x, rfl⟩ := fieldsOf_eq_some h; exact command_handled (.setDebounce x) s
  · obtain ⟨x, rfl⟩ := fieldsOf_eq_some h; exact command_handled (.setTriggers x) s
  · obtain ⟨x, rfl⟩ := fieldsOf_eq_some h; exact command_handled (.setVerify x) s
  · obtain ⟨x, rfl⟩ := fieldsOf_eq_some h; exact command_handled (.setSlipWindow x) s
  · obtain ⟨x, rfl⟩ := fieldsOf_eq_some h; exact command_handled (.setBeatInterval x) s
  · obtain ⟨x, rfl⟩ := fieldsOf_eq_some h; exact command_handled (.setThreshold x) s
  · obtain ⟨x, rfl⟩ := fieldsOf_eq_some h; exact command_handled (.setRecover x) s
  · obtain ⟨x, rfl⟩ := fieldsOf_eq_some h; exact command_handled (.setBlend x) s
  · obtain ⟨x, rfl⟩ := fieldsOf_eq_some h; exact command_handled (.setSettle x) s
  · obtain ⟨x, rfl⟩ := fieldsOf_eq_some h; exact command_handled (.setPreference x) s
  · cases h

theorem queryCommand_handled {k : Nat} {p : List Byte} {g : State → State} (h : queryCommand k p = some g)
    (s : State) : Handled s (g s) := by
  unfold queryCommand at h
  split at h
  · obtain ⟨x, rfl⟩ := fieldsOf_eq_some h; exact query_handled _ _ s
  · obtain ⟨x, rfl⟩ := fieldsOf_eq_some h; exact query_handled _ _ s
  · obtain ⟨x, rfl⟩ := fieldsOf_eq_some h; exact queryRig_handled x s
  · rw [noFields_eq_some h]; exact query_handled _ _ s
  · rw [noFields_eq_some h]; exact query_handled _ _ s
  · rw [noFields_eq_some h]; exact query_handled _ _ s
  · rw [noFields_eq_some h]; exact query_handled _ _ s
  · cases h

theorem judge_handled (k : Byte) (p : List Byte) (s : State) : Handled s (judge k p s) := by
  unfold judge
  cases h : decodeCommand k p with
  | none => exact gate_handled pushReply_handled
  | some f =>
    unfold decodeCommand at h
    dsimp only at h
    split at h
    · exact setListCommand_handled h s
    · exact transportCommand_handled h s
    · exact sourceCommand_handled h s
    · exact settingsCommand_handled h s
    · exact queryCommand_handled h s
    · cases h

/-- What bytes on the desk link come to: frames whose Commands are handled one after another, around which the receiver's
own state changes. -/
inductive Received (s : State) : State → Prop where
  | same : Received s s
  | receiver {t : State} (rx : Receiver) (h : Received s t) : Received s (setReceiver rx t)
  | handled {t u : State} (h : Received s t) (k : Handled t u) : Received s u

theorem Received.trans {s t u : State} (h : Received s t) (k : Received t u) : Received s u := by
  induction k with
  | same => exact h
  | receiver rx _ ih => exact .receiver rx ih
  | handled _ k ih => exact .handled ih k

theorem scan_received : ∀ (n : Nat) (bs : List Byte) (s : State), Received s (scan n bs s)
  | 0, _, _ => .receiver _ .same
  | _ + 1, [], _ => .receiver _ .same
  | n + 1, b :: bs, s => by
    unfold scan
    split
    · split
      · exact .receiver _ .same
      · exact scan_received n bs s
      · exact (Received.handled .same (judge_handled _ _ s)).trans (scan_received n _ _)
    · exact scan_received n bs s

theorem receive_received (bytes : List Byte) (s : State) : Received s (receive bytes s) := by
  unfold receive
  split <;> exact scan_received _ _ s

theorem abandonFrame_received : ∀ (n : Nat) (s : State), Received s (abandonFrame n s)
  | 0, _ => .same
  | n + 1, s => by
    unfold abandonFrame
    split
    · exact .same
    · exact (scan_received _ _ s).trans (abandonFrame_received n _)

theorem discardFrame_received (s : State) : Received s (discardFrame s) := by
  unfold discardFrame
  split
  · exact .same
  · exact abandonFrame_received _ s

/-! ## The effect of a step -/

/-- What a command of the queue does to the part before the transmit line is given what it may start. -/
inductive Effect (s : State) : Instr → State → Prop where
  | cold : Effect s .coldStart (coldStartWork s)
  | powerRemoved (n : Nat) (i : Instr) : Effect s i (powerRemovedWork n s)
  | received {t : State} (i : Instr) (h : Received s t) : Effect s i t
  | event {f : State → State} (i : Instr) (h : EventWork f) : Effect s i (f s)
  | transmitEnd (i : Instr) : Effect s i (transmitEndWork s)

theorem event_effect {f : State → State} {s : State} {i : Instr} (h : Effect s i (f s)) :
    ∃ u, Effect s i u ∧ (event f s = kick u ∨ event f s = u) := by
  unfold event
  split
  · exact ⟨_, h, .inl rfl⟩
  · exact ⟨s, .received i .same, .inr rfl⟩

/-- The meaning of every command of the queue is one of these effects. -/
theorem exec_effect {i : Instr} {s t : State} (h : exec i s = .next t) : ∃ u, Effect s i u ∧ (t = kick u ∨ t = u) := by
  have done {i : Instr} {f : State → State} (e : (.next (event f s) : Host.Outcome State Fault Refusal) = .next t) (k : Effect s i (f s)) :
      ∃ u, Effect s i u ∧ (t = kick u ∨ t = u) := by cases e; exact event_effect k
  have worked {i : Instr} {f : State → State} (e : (.next (event f s) : Host.Outcome State Fault Refusal) = .next t) (k : EventWork f) :=
    done e (.event i k)
  have heard {i : Instr} {f : State → State} (e : (.next (event f s) : Host.Outcome State Fault Refusal) = .next t) (k : Received s (f s)) :=
    done e (.received i k)
  have asked {i : Instr} {f : State → State} (e : (.next (event f s) : Host.Outcome State Fault Refusal) = .next t) (k : Handled s (f s)) :=
    done e (.received i (.handled .same k))
  have taken {i : Instr} {n : Byte} {c : ReplyClass} {w : State → State × Result}
      (e : (.next (event (command n c w) s) : Host.Outcome State Fault Refusal) = .next t) (k : CommandWork w) :=
    done e (.received i (.handled .same (command_handled k s)))
  cases i with
  | coldStart => cases h; exact ⟨_, .cold, .inl rfl⟩
  | powerRemoved n =>
    cases h
    split
    · exact ⟨_, .powerRemoved n _, .inr rfl⟩
    · exact ⟨s, .received _ .same, .inr rfl⟩
  | houseBlockBoundary cue => exact worked h (.boundary cue)
  | startCountdownExpiry => exact worked h .startCountdown
  | cueDebounceExpiry => exact worked h .cueDebounce
  | verifyCountdownExpiry r => exact worked h (.verifyExpiry r)
  | beatIntervalExpiry r => exact worked h (.beatExpiry r)
  | heldMessageTimerExpiry => exact worked h .formHeld
  | blockMessage r bytes => exact worked h (.rigMessage r bytes)
  | slotExpiry r => exact worked h (.slotExpiry r)
  | silenceLimit r => exact worked h (.silenceLimit r)
  | beatMessage r bytes => exact worked h (.rigMessage r bytes)
  | takeStart n => exact worked h (.takeStart n)
  | takeWaitExpiry n => exact worked h (.takeWaitExpiry n)
  | rampEnd n => exact worked h (.rampEnd n)
  | settleEnd n => exact worked h (.settleEnd n)
  | outputFrame => exact worked h .outputFrame
  | timeMessageEnd => exact worked h .timeMessageEnd
  | storeWriteEnd damage => exact worked h (.storeWriteEnd damage)
  | storeTimeout written => exact worked h (.storeTimeout written)
  | deskFrame bytes => exact heard h (receive_received bytes s)
  | interByteTimeout => exact heard h (discardFrame_received s)
  | transmitFrameEnd => exact done h (.transmitEnd _)
  | setEntry index f => exact taken h (.setEntry index f)
  | dropEntry index => exact taken h (.dropEntry index)
  | clearSet => exact taken h .clearSet
  | storeShow => exact taken h .storeShow
  | recallShow => exact taken h .recallShow
  | arm => exact taken h .arm
  | disarm => exact taken h .disarm
  | go => exact taken h .go
  | halt => exact taken h .halt
  | locate index offset => exact taken h (.locate index (offset.getD 0))
  | home => exact taken h (.locate 0 0)
  | release => exact taken h .release
  | restart => exact taken h .restart
  | take rig named => exact taken h (.take rig named)
  | exclude rig => exact taken h (.exclude rig)
  | admitRig rig => exact taken h (.admitRig rig)
  | setGroup number d => exact taken h (.setGroup number d)
  | setRate v => exact taken h (.setRate v)
  | setLead v => exact taken h (.setLead v)
  | setDebounce v => exact taken h (.setDebounce v)
  | setTriggers v => exact taken h (.setTriggers v)
  | setVerify v => exact taken h (.setVerify v)
  | setSlipWindow v => exact taken h (.setSlipWindow v)
  | setBeatInterval v => exact taken h (.setBeatInterval v)
  | setThreshold v => exact taken h (.setThreshold v)
  | setRecover v => exact taken h (.setRecover v)
  | setBlend v => exact taken h (.setBlend v)
  | setSettle v => exact taken h (.setSettle v)
  | setPreference rigs => exact taken h (.setPreference rigs)
  | queryEntry index => exact asked h (query_handled _ _ s)
  | queryGroup number => exact asked h (query_handled _ _ s)
  | queryRig rig => exact asked h (queryRig_handled rig s)
  | queryTransport => exact asked h (query_handled _ _ s)
  | queryArbiter => exact asked h (query_handled _ _ s)
  | queryTakes => exact asked h (query_handled _ _ s)
  | querySettings => exact asked h (query_handled _ _ s)
  | startByte => exact heard h (receive_received _ s)
  | lengthOutOfRange high low => exact heard h (receive_received _ s)
  | byteWithoutStopBit => exact heard h (discardFrame_received s)

end Sys2Proof.Machine
end

section
/-! SUPPORT. What the part's primitive writes are, and the induction over its work, packaged once: a predicate that every
primitive write keeps (`Writes`) is kept by all that the arbiter, the switch controller and the output matrix do. -/

namespace Sys2Proof.Machine

/-! ## Primitive writes -/

/-- A write that leaves the set list, transport, ports, trackers, sets, takes, groups and the desk port. -/
def Aside (s t : State) : Prop :=
  t = { t with
        power := s.power, setList := s.setList, tr := s.tr, ports := s.ports, trackers := s.trackers, arb := s.arb
        sw := s.sw, groups := s.groups, desk := s.desk, pending := s.pending }

/-- A tracker's record may become another: the ranges stay, and EXCLUDED is not entered. -/
structure TrackerMove (t x : Tracker) : Prop where
  safe : t.Safe → x.Safe
  excluded : x.st = .excluded → t.st = .excluded ∧ (t.cued = false → x.cued = false)

/-- A write of the group table: where the sources come from. -/
structure GroupsMove (s : State) (gs : List Group) : Prop where
  safe : GroupsSafe s.groups → GroupsSafe gs
  sources : ∀ g ∈ gs, (∃ x ∈ s.groups, g.source = x.source) ∨ g.source = .fallback ∨
    (∃ t ∈ s.sw.takes, g.source = t.target) ∨
      (s.tr.st ≠ .idle ∧ ∃ r, g.source = .rig r ∧ ((s.tracker r).st = .excluded → (s.tracker r).cued = true))

/-- A rewrite of the open takes that keeps numbers, engines with BLENDING takes, and takes no target but a READY rig. -/
structure TakesMove (s : State) (f : Take → Take) : Prop where
  num : ∀ t ∈ s.sw.takes, (f t).num = t.num
  engine : (∀ t ∈ s.sw.takes, t.engine ≠ none → t.st = .blending) →
    ∀ t ∈ s.sw.takes, (f t).engine ≠ none → (f t).st = .blending
  target : ∀ t ∈ s.sw.takes, (f t).target = t.target ∨ (f t).target = .fallback ∨
    ∃ r, (f t).target = .rig r ∧ (s.tracker r).st = .ready

/-- A change of the transport that keeps R22 and R23, and leaves or enters no run it should not. -/
structure TransportMove (s : State) (t : Transport) : Prop where
  plan : s.PlanSafe → ({ s with tr := t } : State).PlanSafe
  st : t.st = s.tr.st ∨ (s.tr.st ≠ .rolling ∧ t.st ≠ .idle)

/-- An open order that the arbiter may give: while ROLLING, at a level that is not in service, to FALLBACK or a READY
rig. -/
structure OrderOk (s : State) (o : OpenOrder) : Prop where
  rolling : s.tr.st = .rolling
  fresh : ∀ x ∈ s.arb.inService, x.1 ≠ o.level
  target : o.target = .fallback ∨ ∃ r, o.target = .rig r ∧ (s.tracker r).st = .ready

/-- A take's record leaves the table, and its levels leave the in-service set (R120, R141). -/
def State.withoutTake (n : Nat) (s : State) : State :=
  { s with
    sw := { s.sw with takes := s.sw.takes.filter fun t => !(t.num == n) }
    arb := { s.arb with inService := s.arb.inService.filter fun x => !(x.2 == n) } }

/-- Every primitive write of the arbiter, the switch controller and the output matrix keeps the predicate. -/
structure ArbiterWrites (P : State → Prop) : Prop where
  raise : ∀ {s : State} (b : NoticeBody), P s → P (raise b s)
  slip : ∀ {s : State} (r : Rig), P s → P (s.setTracker r (clearCause .slip (s.tracker r)))
  groups : ∀ {s : State} {gs : List Group}, GroupsMove s gs → P s → P { s with groups := gs }
  takes : ∀ {s : State} {f : Take → Take}, TakesMove s f → P s →
    P { s with sw := { s.sw with takes := s.sw.takes.map f } }
  closed : ∀ {s : State} (n : Nat), P s → P (s.withoutTake n)
  withdrawn : ∀ {s : State} (p : Request → Bool), P s → P (s.onRequests (·.filter p))
  requested : ∀ {s : State} {q : Request}, s.tr.st = .rolling → q.level = q.cause.level → P s →
    P (s.onRequests (· ++ [q]))
  opened : ∀ {s : State} {o : OpenOrder},
    ((∀ u, P u → ∀ q ∈ u.arb.requests, q.level = q.cause.level) → o.level ≤ 4) → OrderOk s o → P s → P (openService o s)

/-! ## Facts about the moves -/

theorem TrackerMove.refl (t : Tracker) : TrackerMove t t := ⟨id, fun h => ⟨h, id⟩⟩

theorem TrackerMove.trans {t x y : Tracker} (h : TrackerMove t x) (k : TrackerMove x y) : TrackerMove t y where
  safe := k.safe ∘ h.safe
  excluded e := by
    obtain ⟨e₁, c₁⟩ := k.excluded e
    obtain ⟨e₂, c₂⟩ := h.excluded e₁
    exact ⟨e₂, c₁ ∘ c₂⟩

/-- A record whose detector fields and tap are those of another, in a state that is not EXCLUDED or in the same one. -/
theorem TrackerMove.clearCause (d : Detection) (t : Tracker) : TrackerMove t (clearCause d t) := by
  obtain ⟨-, e⟩ | ⟨-, e⟩ := clearCause_cases d t <;> rw [e]
  · exact ⟨fun h => ⟨h.tap, h.matchCount, h.badRun, h.goodRun, h.slipRun, h.balanceLow, h.balanceHigh⟩, by simp⟩
  · exact ⟨fun h => ⟨h.tap, h.matchCount, h.badRun, h.goodRun, h.slipRun, h.balanceLow, h.balanceHigh⟩,
      fun h => ⟨h, id⟩⟩

theorem clearCause_tap (d : Detection) (t : Tracker) : (Machine.clearCause d t).tap = t.tap := by
  obtain ⟨-, e⟩ | ⟨-, e⟩ := clearCause_cases d t <;> rw [e]

/-- Rewriting single groups keeps the group table valid, when it keeps numbers, definitions and the rule on marks. -/
theorem GroupsSafe.map {gs : List Group} {f : Group → Group} (h : GroupsSafe gs)
    (kept : ∀ g, (f g).num = g.num ∧ (f g).gdef = g.gdef)
    (mark : ∀ g ∈ gs, (f g).uncovered = true → (f g).source ≠ .fallback) : GroupsSafe (gs.map f) where
  some_ e := h.some_ (List.map_eq_nil_iff.1 e)
  number := by simpa [kept] using h.number
  range := by simpa [kept] using h.range
  apart := by simpa [List.pairwise_map, kept] using h.apart
  mark := by simpa using mark

theorem completeGroups_groupsMove {s : State} {t : Take} (ms : List Member) (ht : t ∈ s.sw.takes) :
    GroupsMove s (completeGroups t ms s.groups) where
  safe h := h.map (fun g => by split <;> exact ⟨rfl, rfl⟩) fun g hg hu => by
    split at hu
    · cases hu
    · exact h.mark g hg hu
  sources g hg := by
    obtain ⟨x, hx, rfl⟩ := List.mem_map.1 hg
    split
    · exact .inr (.inr (.inl ⟨t, ht, rfl⟩))
    · exact .inl ⟨x, hx, rfl⟩

/-- Marks set on groups of a rig, or cleared, with no source changed. -/
theorem markGroups_groupsMove {s : State} {p : Group → Bool} {b : Bool}
    (h : b = true → ∀ g ∈ s.groups, p g = true → g.source ≠ .fallback) :
    GroupsMove s (s.groups.map fun g => if p g then { g with uncovered := b } else g) where
  safe k := k.map (fun g => by split <;> exact ⟨rfl, rfl⟩) fun g hg hu => by
    split at hu
    · rename_i hp; rw [if_pos hp]; exact h hu g hg hp
    · rename_i hp; rw [if_neg hp]; exact k.mark g hg hu
  sources g hg := by
    obtain ⟨x, hx, rfl⟩ := List.mem_map.1 hg
    exact .inl ⟨x, hx, by split <;> rfl⟩

/-- The completions of several takes, one after another. -/
theorem completeAll_groupsMove {s : State} (ts : List Take) (h : ∀ t ∈ ts, t ∈ s.sw.takes) :
    GroupsMove s (ts.foldl (fun gs t => completeGroups t t.completing gs) s.groups) := by
  suffices ∀ gs, GroupsMove s gs → GroupsMove s (ts.foldl (fun gs t => completeGroups t t.completing gs) gs) from
    this _ ⟨id, fun g hg => .inl ⟨g, hg, rfl⟩⟩
  induction ts with
  | nil => exact fun gs k => k
  | cons t ts ih =>
    intro gs k
    have c := completeGroups_groupsMove (s := { s with groups := gs }) t.completing (h t (.head _))
    refine ih (fun x hx => h x (.tail _ hx)) _ ⟨c.safe ∘ k.safe, fun g hg => ?_⟩
    obtain ⟨x, hx, e⟩ | rest := c.sources g hg
    · rw [e]; exact k.sources x hx
    · exact .inr rest

/-- The take found under a number is an open take. -/
theorem findTake_mem {ts : List Take} {n : Nat} {t : Take} (h : findTake ts n = some t) : t ∈ ts :=
  List.mem_of_find?_eq_some h

theorem findTake_num {ts : List Take} {n : Nat} {t : Take} (h : findTake ts n = some t) : t.num = n := by
  simpa using List.find?_some h

/-- A take goes to SETTLING, or keeps its engine with its state. -/
theorem TakesMove.update {s : State} {f : Take → Take} (p : Take → Bool)
    (h : ∀ t, (f t).num = t.num ∧ (f t).target = t.target ∧ ((f t).engine ≠ none → (f t).st = .blending)) :
    TakesMove s (fun t => if p t then f t else t) where
  num t _ := by split <;> simp [h]
  engine k t ht := by
    split
    · exact (h t).2.2
    · exact k t ht
  target t _ := by split <;> simp [h]

theorem chooseTarget_ready {s : State} {f : Option Rig} {dropped : List Rig} {r : Rig}
    (h : chooseTarget s f dropped = some r) : (s.tracker r).st = .ready := by
  have := List.find?_some h
  simp only [Bool.and_eq_true, beq_iff_eq] at this
  exact this.1.1

/-! ## Reports and table writes -/

namespace ArbiterWrites

variable {P : State → Prop} {s : State}

theorem foldl (_ : ArbiterWrites P) {α : Type} {f : State → α → State} (h : ∀ s x, P s → P (f s x)) :
    ∀ (l : List α) {s : State}, P s → P (l.foldl f s)
  | [], _, p => p
  | x :: l, s, p => foldl ‹_› h l (h s x p)

/-- A choice between two works that keep the predicate keeps it. -/
theorem either (_ : ArbiterWrites P) {c : Prop} [Decidable c] {t u : State} (h : P t) (p : P u) : P (if c then t else u) := by
  split <;> assumption

theorem raiseRigState (k : ArbiterWrites P) (r : Rig) (b : Bool) (p : P s) : P (raiseRigState r b s) := k.raise _ p

theorem slipClear (k : ArbiterWrites P) (r : Rig) (p : P s) : P (slipClear r s) := by
  unfold Machine.slipClear
  split
  · exact k.raiseRigState r false (k.slip r p)
  · exact p

theorem lossReport (k : ArbiterWrites P) (before : List Group) (r : Rig) (p : P s) : P (lossReport before s r) := by
  have h : P (if carries before r && !carries s.groups r then Machine.slipClear r s else s) := by
    split
    · exact k.slipClear r p
    · exact p
  unfold Machine.lossReport
  dsimp only
  split
  · exact k.withdrawn _ h
  · exact h

theorem lossReports (k : ArbiterWrites P) (before : List Group) (p : P s) : P (lossReports before s) :=
  k.foldl (fun _ r => k.lossReport before r) _ p

theorem writeGroups (k : ArbiterWrites P) {f : List Group → List Group} (h : GroupsMove s (f s.groups)) (p : P s) :
    P (writeGroups f s) := k.lossReports _ (k.groups h p)

/-! ## Takes -/

theorem updateTake (k : ArbiterWrites P) {n : Nat} {f : Take → Take} (p : P s)
    (h : ∀ t, (f t).num = t.num ∧ (f t).target = t.target ∧ ((f t).engine ≠ none → (f t).st = .blending)) :
    P (updateTake n f s) := by
  simpa [Machine.updateTake] using k.takes (TakesMove.update (s := s) (fun t => decide (t.num = n)) h) p

theorem settleNow (k : ArbiterWrites P) (n : Nat) (p : P s) : P (Machine.updateTake n Take.settleNow s) :=
  k.updateTake p fun _ => ⟨rfl, rfl, fun h => absurd rfl h⟩

theorem rampEnd (k : ArbiterWrites P) (n : Nat) (p : P s) : P (rampEnd n s) := by
  unfold Machine.rampEnd
  split
  · split
    · exact k.settleNow n p
    · exact p
  · exact p

theorem assignEngine (k : ArbiterWrites P) (n : Nat) (p : P s) : P (assignEngine n s).1 := by
  have freed (e : Bool) : P { s with sw := { s.sw with
      takes := s.sw.takes.map fun t => if t.engine = some e then t.settleNow else t } } := by
    simpa using k.takes (TakesMove.update (s := s) (f := Take.settleNow) (fun t => decide (t.engine = some e))
      fun _ => ⟨rfl, rfl, fun h => absurd rfl h⟩) p
  unfold Machine.assignEngine
  split
  · exact freed false
  · split
    · exact freed true
    · split
      · exact k.raise _ (k.settleNow _ p)
      · exact p

theorem startTake (k : ArbiterWrites P) (t : Take) (p : P s) : P (startTake t s) := by
  unfold Machine.startTake
  split
  · exact k.updateTake (k.assignEngine t.num p) fun _ => ⟨rfl, rfl, fun _ => rfl⟩
  · exact k.updateTake p fun _ => ⟨rfl, rfl, fun h => absurd rfl h⟩

theorem startOne (k : ArbiterWrites P) (n : Nat) (p : P s) : P (startOne s n) := by
  unfold Machine.startOne
  split
  · split
    · exact k.startTake _ p
    · exact p
  · exact p

theorem takeStart (k : ArbiterWrites P) (n : Nat) (p : P s) : P (takeStart n s) := by
  unfold Machine.takeStart
  split
  · split
    · exact k.foldl (fun _ x => k.startOne x) _ p
    · exact p
  · exact p

/-! ## The arbiter -/

theorem withdrawStale (k : ArbiterWrites P) (p : P s) : P (withdrawStale s) := k.withdrawn _ p

theorem serviceDetection (k : ArbiterWrites P) {q : Request} (rolling : s.tr.st = .rolling)
    (level : (∀ u, P u → ∀ q ∈ u.arb.requests, q.level = q.cause.level) → q.level ≤ 4)
    (fresh : ∀ x ∈ s.arb.inService, x.1 ≠ q.level) (p : P s) : P (serviceDetection q s).1 := by
  unfold Machine.serviceDetection
  dsimp only
  split
  · rename_i t ht
    exact k.withdrawn _ (k.opened level ⟨rolling, fresh, .inr ⟨t, rfl, chooseTarget_ready ht⟩⟩ p)
  · split
    · exact k.withdrawn _ (k.opened level ⟨rolling, fresh, .inl rfl⟩ (k.raise _ p))
    · refine k.withdrawn _ (k.raise _ (k.groups (markGroups_groupsMove (b := true) fun _ g _ hp => ?_) p))
      rw [Bool.and_eq_true, beq_iff_eq] at hp
      rw [hp.2]
      exact Source.noConfusion

theorem serviceRecover (k : ArbiterWrites P) {q : Request} (rolling : s.tr.st = .rolling)
    (level : (∀ u, P u → ∀ q ∈ u.arb.requests, q.level = q.cause.level) → q.level ≤ 4)
    (fresh : ∀ x ∈ s.arb.inService, x.1 ≠ q.level) (p : P s) : P (serviceRecover q s).1 := by
  unfold Machine.serviceRecover
  dsimp only
  split
  · exact k.raise _ p
  · rename_i t ht
    have c : P (clearUncovered t s) := k.groups (markGroups_groupsMove (b := false) (by simp)) p
    split
    · exact c
    · exact k.opened level ⟨rolling, fresh, .inr ⟨t, rfl, chooseTarget_ready ht⟩⟩ c

theorem service (k : ArbiterWrites P) {q : Request} (rolling : s.tr.st = .rolling)
    (level : (∀ u, P u → ∀ q ∈ u.arb.requests, q.level = q.cause.level) → q.level ≤ 4)
    (fresh : ∀ x ∈ s.arb.inService, x.1 ≠ q.level) (p : P s) : P (service q s).1 := by
  unfold Machine.service
  split
  · exact k.serviceRecover rolling level fresh p
  · exact k.serviceDetection rolling level fresh p

end ArbiterWrites

/-- A request decision that comes to REQUESTED is made while ROLLING (R103). -/
theorem decide103_rolling {r : Rig} {d : Detection} {s : State} (h : decide103 r d s = .requested) :
    s.tr.st = .rolling := by
  unfold decide103 at h
  split at h
  · assumption
  · cases h

theorem Cause.level_le (c : Cause) : c.level ≤ 4 := by cases c <;> decide

/-- The request that an examination picks is pending and serviceable (R111). -/
theorem chooseRequest_mem {s : State} {q : Request} (h : chooseRequest s = some q) :
    q ∈ s.arb.requests ∧ ∀ x ∈ s.arb.inService, q.level < x.1 := by
  have best : ∀ (qs : List Request) (b : Request),
      qs.foldl (fun best p => if goesBefore s.groups p best then p else best) b ∈ b :: qs := by
    intro qs
    induction qs with
    | nil => exact fun b => .head _
    | cons p qs ih =>
      intro b
      rcases List.mem_cons.1 (ih (if goesBefore s.groups p b then p else b)) with e | m
      · rw [List.foldl_cons, e]
        split <;> simp
      · exact .tail _ (.tail _ m)
  unfold chooseRequest at h
  split at h
  · cases h
  · rename_i b qs e
    have m : q ∈ s.arb.requests.filter (serviceable s) := by
      rw [e, ← Option.some.inj h]
      exact best qs b
    simpa [serviceable] using m

namespace ArbiterWrites

variable {P : State → Prop} {s : State}

theorem serviceLoop (k : ArbiterWrites P) : ∀ (n : Nat) {s : State}, s.tr.st = .rolling → P s → P (serviceLoop n s)
  | 0, _, _, p => p
  | n + 1, s, rolling, p => by
    unfold Machine.serviceLoop
    dsimp only
    split
    · exact k.withdrawStale p
    · rename_i q hq
      obtain ⟨pending, before⟩ := chooseRequest_mem hq
      have served := k.service (q := q) (s := (Machine.withdrawStale s).onRequests fun qs => qs.filter fun p => !(p == q))
        rolling (fun leveled => by rw [leveled _ (k.withdrawStale p) q pending]; exact q.cause.level_le)
        (fun x hx => (Nat.ne_of_lt (before x hx)).symm) (k.withdrawn _ (k.withdrawStale p))
      have st : ∀ u, ArbiterWork ((Machine.withdrawStale s).onRequests fun qs => qs.filter fun p => !(p == q)) u →
          u.tr.st = .rolling := fun u w => by rw [w.tr]; exact rolling
      split
      · exact served
      · exact serviceLoop k n (st _ (.service _ _)) served

theorem examine (k : ArbiterWrites P) (p : P s) : P (examine s) := by
  unfold Machine.examine
  split
  · exact k.serviceLoop _ ‹_› p
  · exact k.withdrawStale p

theorem request (k : ArbiterWrites P) {q : Request} (rolling : s.tr.st = .rolling) (level : q.level = q.cause.level) (p : P s) :
    P (request q s) := by
  refine k.examine ?_
  split
  · exact p
  · exact k.requested rolling level p

theorem readyArrival (k : ArbiterWrites P) (r : Rig) (p : P s) : P (readyArrival r s) := by
  unfold Machine.readyArrival
  split
  · rename_i h
    simp only [recoverOpen, Bool.and_eq_true, beq_iff_eq] at h
    exact k.request h.1.1.1.2 rfl p
  · exact p

theorem rollArrival (k : ArbiterWrites P) (p : P s) : P (rollArrival s) := by
  unfold Machine.rollArrival
  split
  · exact k.examine (k.readyArrival _ p)
  · exact k.examine p

/-! ## Renewals and closes -/

theorem renewOne (k : ArbiterWrites P) (r : Rig) (d : Detection) (p : P s) : P (renewOne r d s) := by
  unfold Machine.renewOne
  split
  · exact k.request (decide103_rolling ‹_›) rfl (k.raise _ p)
  · exact p

theorem renew (k : ArbiterWrites P) (r : Rig) (p : P s) : P (renew s r) := by
  unfold Machine.renew
  split
  · refine k.foldl (fun s d h => ?_) _ p
    unfold renewCause
    split
    · exact k.renewOne r d h
    · exact h
  · split
    · exact k.renewOne r _ p
    · exact p
  · exact p

/-- A take's record goes, its notice is raised, and its close is reported (R120, R141). -/
theorem closeReported (k : ArbiterWrites P) (n : Nat) (b : NoticeBody) (p : P s) :
    P (closeReport n (Machine.raise b (removeTake n s))) :=
  k.examine (k.raise (s := s.withoutTake n) b (k.closed n p))

theorem closeTake (k : ArbiterWrites P) (notice : Take → State → NoticeBody) {t : Take} (ht : t ∈ s.sw.takes) (p : P s) :
    P (closeTake notice t s) :=
  k.closeReported t.num _ (k.writeGroups (f := completeGroups t t.completing) (completeGroups_groupsMove _ ht) p)

theorem settleEnd (k : ArbiterWrites P) (n : Nat) (p : P s) : P (settleEnd n s) := by
  unfold Machine.settleEnd
  split
  · split
    · exact k.closeTake _ (findTake_mem ‹_›) p
    · exact p
  · exact p

theorem spoilTake (k : ArbiterWrites P) (r : Rig) (n : Nat) (p : P s) : P (spoilTake r s n) := by
  unfold Machine.spoilTake
  split
  · split
    · exact k.foldl (fun _ r => k.renew r) _ (k.closeTake _ (findTake_mem ‹_›) p)
    · exact p
  · exact p

theorem targetFault (k : ArbiterWrites P) (r : Rig) (p : P s) : P (targetFault r s) := k.foldl (fun _ n => k.spoilTake r n) _ p

theorem retargetTake (k : ArbiterWrites P) {target : Source} {dropped : List Rig} {t : Take} (ht : t ∈ s.sw.takes)
    (waiting : t.st = .waiting) (ok : target = .fallback ∨ ∃ r, target = .rig r ∧ (s.tracker r).st = .ready) (p : P s) :
    P (retargetTake target dropped t s) := by
  refine k.raise _ (k.takes (s := s)
    (f := fun x => if x.num = t.num then t.retarget target dropped (firstFrame (s.block + 1)) else x)
    ⟨fun x _ => ?_, fun h x hx => ?_, fun x _ => ?_⟩ p)
  · split
    · rename_i e; exact e.symm
    · rfl
  · split
    · intro busy
      have := h t ht busy
      rw [waiting] at this
      cases this
    · exact h x hx
  · split
    · exact .inr ok
    · exact .inl rfl

theorem noRechoice (k : ArbiterWrites P) {dropped : List Rig} {t : Take} (ht : t ∈ s.sw.takes) (waiting : t.st = .waiting)
    (p : P s) : P (noRechoice dropped t s) := by
  unfold Machine.noRechoice
  dsimp only
  split
  · exact k.retargetTake (s := Machine.raise _ s) ht waiting (.inl rfl) (k.raise _ p)
  · exact k.closeTake (s := Machine.raise _ s) _ ht (k.raise _ p)
  · exact k.closeTake (s := Machine.raise _ s) _ ht (k.raise _ p)
  · refine k.closeTake (s := Machine.raise _ (Machine.markMembers t s)) _ ht
      (k.raise _ (k.groups (markGroups_groupsMove (b := true) fun _ g _ hp => ?_) p))
    rw [Bool.and_eq_true, beq_iff_eq] at hp
    rw [hp.2]
    exact Source.noConfusion

theorem takeWaitExpiry (k : ArbiterWrites P) (n : Nat) (p : P s) : P (takeWaitExpiry n s) := by
  unfold Machine.takeWaitExpiry
  split
  · rename_i t ht
    split
    · rename_i due
      unfold Machine.rechoice
      dsimp only
      split
      · rename_i r hr
        refine k.retargetTake (findTake_mem ht) due.1 (.inr ⟨r, rfl, ?_⟩) p
        unfold rechoose at hr
        split at hr
        · cases hr
        · exact chooseTarget_ready hr
      · exact k.noRechoice (findTake_mem ht) due.1 p
    · exact p
  · exact p

theorem closeNamed (k : ArbiterWrites P) (c : Close) (t : Take) (p : P s) : P (closeNamed c s t) := k.closeReported t.num _ p

theorem closeAll (k : ArbiterWrites P) (c : Close) (p : P s) : P (closeAll c s) :=
  k.foldl (fun _ t => k.closeNamed c t) _ (k.writeGroups (completeAll_groupsMove _ fun _ h => h) p)

/-! ## Detections -/

theorem detect (k : ArbiterWrites P) (r : Rig) (d : Detection) (b : Bool) (p : P s) : P (detect r d b s) := by
  unfold Machine.detect
  dsimp only
  have h : P (if isTarget s.sw.takes r = true then Machine.targetFault r s else s) := k.either (k.targetFault r p) p
  generalize (if isTarget s.sw.takes r = true then Machine.targetFault r s else s) = u at h ⊢
  split
  · rename_i requested
    exact k.request (q := ⟨d.level, r, d.cause, _⟩) (decide103_rolling (r := r) (d := d) (s := u) requested) rfl
      (k.raise _ h)
  · exact k.raise _ h

/-- After the write of the tracker's record, a tracker's event does arbiter and take work alone. -/
theorem applyStep (k : ArbiterWrites P) {r : Rig} {x : TrackerStep} (b : Bool) (p : P (s.setTracker r x.t)) :
    P (applyStep r x b s) := by
  unfold Machine.applyStep
  dsimp only
  have shown := k.either (c := x.notify = true) (k.raiseRigState r x.notFound p) p
  have arrived := k.either (c := x.ready = true) (k.readyArrival r shown) shown
  split
  · exact k.detect r _ b arrived
  · exact arrived

end ArbiterWrites

end Sys2Proof.Machine
end

section
/-! SUPPORT. What a tracker's steps and a rig link port's work may do: each step of a tracker is a `TrackerMove`, all but a
GOOD report leave the tap, and the ports' work keeps what the primitive writes keep. -/

namespace Sys2Proof.Machine

/-! ## Steps that leave the tap -/

/-- A move of a tracker's record that leaves the tap. -/
structure StillMove (t x : Tracker) : Prop extends TrackerMove t x where
  tap : x.tap = t.tap

theorem StillMove.refl (t : Tracker) : StillMove t t := ⟨.refl t, rfl⟩

theorem StillMove.trans {t x y : Tracker} (h : StillMove t x) (k : StillMove x y) : StillMove t y :=
  ⟨h.toTrackerMove.trans k.toTrackerMove, k.tap.trans h.tap⟩

/-- A record in a state that is not EXCLUDED, whose ranges hold. -/
theorem TrackerMove.online {t x : Tracker} (safe : t.Safe → x.Safe) (st : x.st ≠ .excluded) : TrackerMove t x :=
  ⟨safe, fun h => absurd h st⟩

/-- A record that keeps the state and CUED, whose ranges hold. -/
theorem TrackerMove.within {t x : Tracker} (safe : t.Safe → x.Safe) (st : x.st = t.st) (cued : x.cued = t.cued) :
    TrackerMove t x :=
  ⟨safe, fun h => ⟨st ▸ h, fun c => cued.trans c⟩⟩

theorem StillMove.clearCause (d : Detection) (t : Tracker) : StillMove t (clearCause d t) :=
  ⟨.clearCause d t, clearCause_tap d t⟩

@[simp] theorem Tracker.fail_st (d : Detection) (t : Tracker) : (t.fail d).st = .failed := by
  unfold Tracker.fail
  dsimp only
  split
  · assumption
  · rfl

@[simp] theorem Tracker.fail_tap (d : Detection) (t : Tracker) : (t.fail d).tap = t.tap := by
  unfold Tracker.fail
  dsimp only
  split <;> rfl

theorem Tracker.Safe.fail {t : Tracker} (h : t.Safe) (d : Detection) : (t.fail d).Safe := by
  unfold Tracker.fail
  dsimp only
  split
  · exact { h with }
  · exact { h with matchCount := Nat.zero_le _, slipRun := (by decide : 0 < Config.slipLimit) }

theorem StillMove.fail (d : Detection) (t : Tracker) : StillMove t (t.fail d) :=
  ⟨.online (·.fail d) (by simp), Tracker.fail_tap d t⟩

theorem StillMove.breakMatches (t : Tracker) : StillMove t t.breakMatches := by
  unfold Tracker.breakMatches
  split
  · exact ⟨.within (fun h => { h with matchCount := Nat.zero_le _ }) rfl rfl, rfl⟩
  · exact .refl t

theorem StillMove.locked (t : Tracker) : StillMove t t.locked := by
  unfold Tracker.locked
  split
  · exact ⟨.online (fun h => { h with
      matchCount := Nat.zero_le _, balanceLow := (by decide : (-9 : Int) ≤ 0),
      balanceHigh := (by decide : (0 : Int) ≤ 8) }) (by simp), rfl⟩
  · exact .refl t

/-- The detectors' values and the counts of a record that leaves service lie in their ranges (R90). -/
theorem Tracker.Safe.cleared {t : Tracker} (h : t.Safe) : t.clearDetectors.clearCounts.Safe where
  tap := h.tap
  matchCount := Nat.zero_le _
  badRun := Nat.zero_le _
  goodRun := Nat.zero_le _
  slipRun := (by decide : 0 < Config.slipLimit)
  balanceLow := h.balanceLow
  balanceHigh := h.balanceHigh

theorem StillMove.linkDown (t : Tracker) : StillMove t t.linkDown := by
  unfold Tracker.linkDown
  split
  · exact .refl t
  · exact ⟨.online (fun h => { h.cleared with }) (by simp), rfl⟩

theorem Tracker.Safe.exclude {t : Tracker} (h : t.Safe) : t.exclude.Safe := { h.cleared with }

theorem StillMove.admitted (link : Link) (t : Tracker) : StillMove t (t.admitted link) := by
  have off : StillMove t { t with st := .offline } := ⟨.online (fun h => { h with }) (by simp), rfl⟩
  unfold Tracker.admitted
  dsimp only
  split
  · exact off.trans (.locked _)
  · exact off

theorem StillMove.arm (t : Tracker) : StillMove t t.arm := by
  unfold Tracker.arm
  split
  · exact ⟨.online (fun h => { h with }) (by simp), rfl⟩
  · exact ⟨.online (fun h => { h with }) (by simp), rfl⟩
  · rename_i st
    exact ⟨.online (fun h => { h with matchCount := Nat.zero_le _ }) (by simp [st]), rfl⟩
  · exact ⟨⟨fun h => { h with }, fun h => ⟨h, fun _ => rfl⟩⟩, rfl⟩

theorem StillMove.clearCued (t : Tracker) : StillMove t { t with cued := false } :=
  ⟨⟨fun h => { h with }, fun h => ⟨h, fun _ => rfl⟩⟩, rfl⟩

theorem StillMove.verifyBoundary (t : Tracker) : StillMove t t.verifyBoundary := by
  unfold Tracker.verifyBoundary
  split
  · exact ⟨.within (fun h => { h with }) rfl rfl, rfl⟩
  · exact .refl t

theorem StillMove.beatBoundary (n : Nat) (t : Tracker) : StillMove t (t.beatBoundary n) := by
  unfold Tracker.beatBoundary
  split
  · exact ⟨.within (fun h => { h with }) rfl rfl, rfl⟩
  · exact .refl t

theorem StillMove.beatExpiry (t : Tracker) : StillMove t (beatExpiryStep t).t := by
  unfold beatExpiryStep
  dsimp only
  split
  · exact ⟨.within (fun h => { h with }) rfl rfl, rfl⟩
  · rename_i low
    have fallen : StillMove t { t with timer := some 0, beatDue := false, balance := t.balance - 1 } :=
      ⟨.within (fun h => { h with
        balanceLow := by have := h.balanceLow; show (-9 : Int) ≤ t.balance - 1; omega
        balanceHigh := by have := h.balanceHigh; show t.balance - 1 ≤ 8; omega }) rfl rfl, rfl⟩
    split
    · exact fallen.trans (.fail .beat _)
    · exact fallen

theorem StillMove.beatCredit (t : Tracker) : StillMove t (beatCreditStep t).t := by
  unfold beatCreditStep
  dsimp only
  split
  · exact .refl t
  · rename_i high
    have risen : StillMove t { t with balance := t.balance + 1 } :=
      ⟨.within (fun h => { h with
        balanceLow := by have := h.balanceLow; show (-9 : Int) ≤ t.balance + 1; omega
        balanceHigh := by show t.balance + 1 ≤ 8; omega }) rfl rfl, rfl⟩
    split
    · exact risen.trans (.clearCause .beat _)
    · exact risen

theorem StillMove.verifyExpiry (onAir : Bool) (t : Tracker) : StillMove t (verifyExpiryStep onAir t).t := by
  have taken : StillMove t { t with verifyDue := false } := ⟨.within (fun h => { h with }) rfl rfl, rfl⟩
  unfold verifyExpiryStep
  dsimp only
  split
  · split
    · exact taken.trans (.fail .slip _)
    · exact ⟨.online (fun h => { h with }) (by simp), rfl⟩
  · split
    · exact taken.trans (.fail .slip _)
    · exact taken
  · exact taken

theorem StillMove.badStep (t : Tracker) : StillMove t (badStep t).t := by
  have counted : StillMove t
      { t.breakMatches with badRun := min (t.badRun + 1) Config.stallRun, goodRun := 0 } :=
    (StillMove.breakMatches t).trans
      ⟨.within (fun h => { h with badRun := Nat.min_le_right _ _, goodRun := Nat.zero_le _ }) rfl rfl, rfl⟩
  unfold Machine.badStep
  dsimp only
  split
  · exact counted.trans (.fail .stall _)
  · exact counted

/-! ## A GOOD report -/

theorem StillMove.countNotFound (span : Nat) (t : Tracker) : StillMove t (countNotFound span t).1 := by
  unfold Machine.countNotFound
  split <;> exact ⟨.within (fun h => { h with }) rfl rfl, rfl⟩

/-- A search that finds a tap finds one of 0..4,064 (R71). -/
theorem lineupSearch_le {s : State} {stamp : HouseFrame} {tag : Tag} {d : Nat} (h : lineupSearch s stamp tag = some d) :
    d ≤ Config.maxTap := by
  unfold lineupSearch at h
  split at h
  · cases h
  · split at h
    · cases h
    · dsimp only at h
      split at h
      · rename_i range
        rw [← Option.some.inj h]
        omega
      · cases h

theorem TrackerMove.searchStep (s : State) (stamp : HouseFrame) (tag : Tag) (b : Bool) (t : Tracker) :
    TrackerMove t (searchStep s stamp tag b t).t := by
  unfold Machine.searchStep
  split
  · exact .online (fun h => { h with tap := lineupSearch_le ‹_›, matchCount := Nat.zero_le _ }) (by simp)
  · exact (StillMove.countNotFound _ t).toTrackerMove

theorem StillMove.matchStep (b : Bool) (t : Tracker) : StillMove t (matchStep b t).t := by
  unfold Machine.matchStep
  split
  · split
    · exact ⟨.online (fun h => { h with matchCount := Nat.le_refl _ }) (by simp), rfl⟩
    · exact ⟨.within (fun h => { h with matchCount := Nat.le_of_lt (Nat.not_le.1 ‹_›) }) rfl rfl, rfl⟩
  · exact ⟨.online (fun h => { h with }) (by simp), rfl⟩
  · exact .refl t

theorem correctedTap_le {tap d : Nat} {e : Int} (h : correctedTap tap e = some d) : d ≤ Config.maxTap := by
  unfold correctedTap at h
  split at h
  · rename_i range
    rw [← Option.some.inj h]
    omega
  · cases h

theorem TrackerMove.freeStep (s : State) (stamp : HouseFrame) (tag : Tag) (parked : Bool) (c : Check) (b : Bool)
    (t : Tracker) : TrackerMove t (freeStep s stamp tag parked c b t).t := by
  have lost : TrackerMove t { t with st := .searching, notFound := 0, verifyDue := false } :=
    .online (fun h => { h with }) (by simp)
  have searched : TrackerMove t
      (if parked = true then
        (⟨{ t with st := .searching, notFound := 0, verifyDue := false }, true, false, none, false⟩ : TrackerStep)
      else Machine.searchStep s stamp tag true { t with st := .searching, notFound := 0, verifyDue := false }).t := by
    split
    · exact lost
    · exact lost.trans (searchStep ..)
  unfold Machine.freeStep
  dsimp only
  split
  · exact (StillMove.matchStep b t).toTrackerMove
  · split
    · rename_i d corrected
      exact (StillMove.breakMatches t).toTrackerMove.trans
        (.within (fun h => { h with tap := correctedTap_le corrected }) rfl rfl)
    · exact searched
  · exact searched

theorem StillMove.slipStep (s : State) (c : Check) {t : Tracker} {x : TrackerStep} (h : StillMove t x.t) :
    StillMove t (slipStep s c x).t := by
  unfold Machine.slipStep
  dsimp only
  split
  · exact h.trans (.fail .slip _)
  · exact h.trans ⟨.within (fun h => { h with slipRun := Nat.not_le.1 ‹_› }) rfl rfl, rfl⟩

/-- The slip run returned to 0 (R95). -/
theorem StillMove.slipRunZero (t : Tracker) : StillMove t { t with slipRun := 0 } :=
  ⟨.within (fun h => { h with slipRun := (by decide : 0 < Config.slipLimit) }) rfl rfl, rfl⟩

theorem StillMove.frozenStep (s : State) (c : Check) (b : Bool) (t : Tracker) : StillMove t (frozenStep s c b t).t := by
  unfold Machine.frozenStep
  split
  · exact (slipRunZero t).trans (.matchStep b _)
  · exact .slipStep s c (.breakMatches t)

theorem StillMove.frozenSearchStep (s : State) (c : Check) (b : Bool) (t : Tracker) :
    StillMove t (frozenSearchStep s c b t).t := by
  unfold Machine.frozenSearchStep
  split
  · exact ⟨.online (fun h => { h with
      matchCount := Nat.zero_le _, slipRun := (by decide : 0 < Config.slipLimit) }) (by simp), rfl⟩
  · exact .slipStep s c (StillMove.countNotFound _ t)

theorem StillMove.goodCount (t : Tracker) : StillMove t (goodCount t).1 := by
  have counted : StillMove t { t with goodRun := min (t.goodRun + 1) Config.clearRun, badRun := 0 } :=
    ⟨.within (fun h => { h with badRun := Nat.zero_le _, goodRun := Nat.min_le_right _ _ }) rfl rfl, rfl⟩
  unfold Machine.goodCount
  dsimp only
  split
  · exact counted.trans (.clearCause .stall _)
  · exact counted

theorem TrackerMove.runningStep (s : State) (r : Rig) (stamp : HouseFrame) (tag : Tag) (parked b : Bool) (t : Tracker) :
    TrackerMove t (runningStep s r stamp tag parked b t).t := by
  unfold Machine.runningStep
  dsimp only
  split
  · split
    · exact .refl t
    · split
      · exact (StillMove.slipRunZero t).toTrackerMove.trans (searchStep ..)
      · exact (StillMove.frozenSearchStep ..).toTrackerMove
  · split
    · exact (StillMove.slipRunZero t).toTrackerMove.trans (freeStep ..)
    · exact (StillMove.frozenStep ..).toTrackerMove

/-- Tag work at a frozen tap leaves the tap (R73). -/
theorem runningStep_tap {s : State} {r : Rig} (frozen : s.tapFree r = false) (stamp : HouseFrame) (tag : Tag)
    (parked b : Bool) (t : Tracker) : (runningStep s r stamp tag parked b t).t.tap = t.tap := by
  unfold Machine.runningStep
  dsimp only
  rw [frozen]
  split
  · split
    · rfl
    · exact (StillMove.frozenSearchStep ..).tap
  · exact (StillMove.frozenStep ..).tap

theorem TrackerSt.works_ne_excluded {t : TrackerSt} (h : t.works = true) : t ≠ .excluded := by
  rintro rfl; cases h

theorem TrackerMove.goodStep (s : State) (r : Rig) (stamp : HouseFrame) (tag : Tag) (parked b : Bool) (t : Tracker) :
    TrackerMove t (goodStep s r stamp tag parked b t).t := by
  unfold Machine.goodStep
  split
  · rename_i works
    split
    · exact runningStep ..
    · split
      · exact .refl t
      · exact runningStep ..
    · exact .online (fun h => { h with }) (TrackerSt.works_ne_excluded works)
    · exact .refl t
  · exact .refl t

theorem TrackerMove.reportStep (s : State) (r : Rig) (stamp : HouseFrame) (v : Verdict) (t : Tracker) :
    TrackerMove t (reportStep s r stamp v t).t := by
  unfold Machine.reportStep
  split
  · exact (StillMove.goodCount t).toTrackerMove.trans (goodStep ..)
  · exact (StillMove.badStep t).toTrackerMove

/-! ## Primitive writes of the rig link ports -/

theorem Port.Safe.write {p : Port} (h : p.Safe) (x : SlotRecord) : (p.write x).Safe :=
  { h with line := List.length_take_le _ _ }

theorem Port.Safe.expire {p : Port} (h : p.Safe) (e : HouseFrame) : (p.expire e).Safe where
  line := (h.write ⟨e, none⟩).line
  acquire := by
    show (if p.link = .acquiring then 0 else p.acquire) ≤ _
    split
    · exact Nat.zero_le _
    · exact h.acquire

theorem acquireStep_le {p : Port} (h : p.acquire ≤ Config.acquireCount) (t : Timing) :
    (acquireStep p t).2 ≤ Config.acquireCount := by
  unfold acquireStep
  split
  · decide
  · split
    · exact Nat.le_refl _
    · exact Nat.le_of_lt (Nat.not_le.1 ‹_›)
  · exact (by decide : 1 ≤ Config.acquireCount)
  · exact h

theorem Port.Safe.takeBlock {p : Port} (k : p.Safe) (h : BlockHead) (samples : List Byte) (now stamp : HouseFrame)
    (t : Timing) : (p.takeBlock h samples now stamp t).Safe where
  line := (k.write ⟨stamp, some (audioOf h.channels samples)⟩).line
  acquire := acquireStep_le k.acquire t

theorem Port.Safe.down {p : Port} (h : p.Safe) : p.down.Safe := { h with acquire := Nat.zero_le _ }

theorem Port.Safe.rateChange (p : Port) : p.rateChange.Safe := ⟨Nat.zero_le _, Nat.zero_le _⟩

/-! ## The trackers' events and the ports' work -/

/-- A change of the transport that leaves state, house position and plan. -/
theorem TransportMove.beside {s : State} {t : Transport} (st : t.st = s.tr.st) (house : t.house = s.tr.house)
    (plan : t.plan = s.tr.plan) : TransportMove s t where
  plan h := ⟨⟨by rw [house, st]; exact h.transport.house, by rw [plan, st]; exact h.transport.plan⟩,
    by rw [plan]; exact h.codes⟩
  st := .inl st

/-- Every primitive write outside the transport's stops keeps the predicate. -/
structure Writes (P : State → Prop) : Prop extends ArbiterWrites P where
  aside : ∀ {s t : State}, Aside s t → P s → P t
  tracker : ∀ {s : State} {r : Rig} {x : Tracker}, TrackerMove (s.tracker r) x → x.tap = (s.tracker r).tap → P s →
    P (s.setTracker r x)
  exclude : ∀ {s : State} {r : Rig}, s.onAir r = false → isTarget s.sw.takes r = false → P s →
    P (s.setTracker r (s.tracker r).exclude)
  port : ∀ {s : State} {r : Rig} {q : Port}, ((s.port r).Safe → q.Safe) → P s → P (s.setPort r q)
  tr : ∀ {s : State} {t : Transport}, TransportMove s t → P s → P { s with tr := t }
  slip := fun r p => tracker (r := r) (.clearCause .slip _) (clearCause_tap _ _) p

/-- The writes of a rig's record at a GOOD report keep the predicate, the tap's too. -/
def Retaps (P : State → Prop) (r : Rig) : Prop :=
  ∀ (s : State) (x : Tracker), TrackerMove (s.tracker r) x → P s → P (s.setTracker r x)

namespace Writes

variable {P : State → Prop} {s : State}

theorem still (k : Writes P) {r : Rig} {x : Tracker} (h : StillMove (s.tracker r) x) (p : P s) : P (s.setTracker r x) :=
  k.tracker h.toTrackerMove h.tap p

/-- A still move of every tracker's record. -/
theorem onTrackers (k : Writes P) {f : Tracker → Tracker} (h : ∀ t, StillMove t (f t)) (p : P s) : P (s.onTrackers f) :=
  k.still (r := .C) (s := (s.setTracker .A (f (s.tracker .A))).setTracker .B (f (s.tracker .B))) (h _)
    (k.still (r := .B) (s := s.setTracker .A (f (s.tracker .A))) (h _) (k.still (h _) p))

theorem verifyExpiry (k : Writes P) (r : Rig) (p : P s) : P (verifyExpiry r s) := by
  unfold Machine.verifyExpiry
  exact k.either (k.applyStep _ (k.still (.verifyExpiry _ _) p)) p

theorem beatExpiry (k : Writes P) (r : Rig) (p : P s) : P (beatExpiry r s) := by
  unfold Machine.beatExpiry
  exact k.either (k.applyStep _ (k.still (.beatExpiry _) p)) p

theorem missingReport (k : Writes P) (r : Rig) (stamp : HouseFrame) (p : P s) : P (blockReport r stamp .missing s) := by
  unfold blockReport
  exact k.either p (k.applyStep _ (k.still (.badStep _) p))

theorem blockReport (k : Writes P) {r : Rig} (retaps : Retaps P r) (stamp : HouseFrame) (v : Verdict) (p : P s) :
    P (blockReport r stamp v s) := by
  unfold Machine.blockReport
  exact k.either p (k.applyStep _ (retaps s _ (.reportStep ..) p))

theorem expireSlot (k : Writes P) (r : Rig) (e : HouseFrame) (p : P s) : P (expireSlot r e s) := by
  unfold Machine.expireSlot
  dsimp only
  have written : P (s.setPort r ((s.port r).expire e)) := k.port (·.expire e) p
  exact k.either (k.missingReport r e written) written

theorem slotExpiry (k : Writes P) (r : Rig) (p : P s) : P (slotExpiry r s) := by
  unfold Machine.slotExpiry
  split
  · exact k.expireSlot r _ p
  · exact p

theorem expireLate (k : Writes P) (r : Rig) : ∀ (n : Nat) {s : State}, P s → P (expireLate r n s)
  | 0, _, p => p
  | n + 1, s, p => by
    unfold Machine.expireLate
    split
    · exact expireLate k r n (k.expireSlot r _ p)
    · exact p

theorem setRigCue (k : Writes P) (r : Rig) (c : Option Bool) (p : P s) : P (s.setRigCue r c) :=
  k.tr (.beside rfl rfl rfl) p

theorem dropLink (k : Writes P) {f : Port → Port} (safe : ∀ q, q.Safe → (f q).Safe) (r : Rig) (p : P s) :
    P (dropLink f r s) := by
  unfold Machine.dropLink
  dsimp only
  have dropped : P (((s.setPort r (f (s.port r))).setRigCue r none).setTracker r (s.tracker r).linkDown) :=
    k.still (s := (s.setPort r (f (s.port r))).setRigCue r none) (.linkDown _) (k.setRigCue r none (k.port (safe _) p))
  have shown := k.either (c := (s.port r).link = .down) dropped (k.raiseRigState r false dropped)
  exact k.either shown (k.detect r _ false shown)

theorem dropAllLinks (k : Writes P) (p : P s) : P (dropAllLinks s) :=
  k.foldl (fun _ r => k.dropLink (fun q _ => Port.Safe.rateChange q) r) _ p

theorem silenceLimit (k : Writes P) (r : Rig) (p : P s) : P (silenceLimit r s) := by
  unfold Machine.silenceLimit
  exact k.either (k.dropLink (fun _ h => h.down) r p) p

theorem takeBeat (k : Writes P) (r : Rig) (code : Nat) (p : P s) : P (takeBeat r code s) := by
  unfold Machine.takeBeat
  dsimp only
  have noted : P (s.setPort r { s.port r with beatCode := some code }) := k.port (fun h => { h with }) p
  exact k.either (k.applyStep _ (k.still (.beatCredit _) noted)) noted

theorem linkLocked (k : Writes P) (r : Rig) (p : P s) : P (linkLocked r s) :=
  k.raiseRigState r false (k.still (.locked _) p)

theorem clearAllCued (k : Writes P) (p : P s) : P (clearAllCued s) := by
  refine k.foldl (fun s r p => ?_) _ p
  unfold clearCued
  exact k.either (k.raiseRigState r false (k.still (.clearCued _) p)) p

/-- What the stop of a run does beyond the transport's own fields (R31, R38). -/
theorem stopped (k : Writes P) {st : TState} {house : Option Pos} (c : Close) (p : P (s.onTr (·.stop st house))) :
    P (stopRun st house c s) :=
  k.aside (s := Machine.discardRequests (Machine.closeAll c (Machine.clearAllCued (s.onTr (·.stop st house))))) rfl
    (by simpa [discardRequests, State.onRequests] using k.withdrawn (fun _ => false) (k.closeAll c (k.clearAllCued p)))

end Writes

/-- Every primitive write keeps the predicate, and so do the stop of a run and the way to IDLE, which each change transport
and groups in one event. -/
structure Kept (P : State → Prop) : Prop extends Writes P where
  stopRun : ∀ {s : State} {st : TState} {house : Option Pos} (c : Close), ¬s.Stopped → st = .parked ∨ st = .ended →
    (s.PlanSafe → house ≠ none) → P s → P (stopRun st house c s)
  idle : ∀ {s : State}, s.tr.st = .parked ∨ s.tr.st = .ended → P s →
    P { s with tr := s.tr.toIdle, groups := s.groups.map (Group.place .fallback) }

end Sys2Proof.Machine
end

section
/-! SUPPORT. The transport's work, the boundary, the output frame and the desk Commands keep what the primitive writes keep;
and the induction over steps. -/

namespace Sys2Proof.Machine

/-! ## Primitive writes of the transport -/

/-- The transport is running. -/
theorem State.not_stopped {s : State} : ¬s.Stopped ↔ s.tr.st = .starting ∨ s.tr.st = .rolling := by
  simp [State.Stopped, or_iff_not_imp_left]

/-- A change of a running transport that leaves its state, and whose plan carries the set list's codes (R23). -/
theorem TransportMove.planned {s : State} {t : Transport} (running : ¬s.Stopped) (st : t.st = s.tr.st)
    (house : t.house = none ↔ s.tr.house = none)
    (plan : (∀ e ∈ s.tr.plan, e.code = s.codeAt e.index) → ∀ e ∈ t.plan, e.code = s.codeAt e.index) :
    TransportMove s t where
  plan h := ⟨⟨by rw [st, house]; exact h.transport.house,
    fun a b => absurd ⟨st ▸ a, st ▸ b⟩ running⟩, plan h.codes⟩
  st := .inl st

/-- A change of the transport to a state outside a run, with a house position and no plan. -/
theorem TransportMove.halted {s : State} {t : Transport} (from_ : s.tr.st ≠ .rolling) (st : t.st ≠ .idle)
    (house : s.PlanSafe → t.house ≠ none) (plan : s.PlanSafe → t.plan = []) : TransportMove s t where
  plan h := ⟨⟨⟨fun e => absurd e (house h), fun e => absurd e st⟩, fun _ _ => plan h⟩, by
    intro e he
    rw [show ({ s with tr := t } : State).tr.plan = [] from plan h] at he
    cases he⟩
  st := .inr ⟨from_, st⟩

theorem State.PlanSafe.plan_nil {s : State} (h : s.PlanSafe) (stopped : s.Stopped) : s.tr.plan = [] :=
  h.transport.plan stopped.1 stopped.2

theorem State.PlanSafe.house_ne {s : State} (h : s.PlanSafe) (st : s.tr.st ≠ .idle) : s.tr.house ≠ none :=
  fun e => st (h.transport.house.1 e)

/-! ## Appends (R26 to R28) -/

theorem mem_markLast {t : Transport} {b : Bool} {e : PlanEntry} (h : e ∈ (t.markLast b).plan) :
    ∃ x ∈ t.plan, e.code = x.code ∧ e.index = x.index := by
  obtain ⟨i, hi, he⟩ := List.mem_iff_getElem.1 h
  simp only [Transport.markLast, List.length_modify] at hi
  refine ⟨t.plan[i], List.getElem_mem hi, ?_⟩
  simp only [Transport.markLast, List.getElem_modify] at he
  subst he
  split <;> exact ⟨rfl, rfl⟩

@[simp] theorem Transport.markLast_st (t : Transport) (b : Bool) : (t.markLast b).st = t.st := rfl
@[simp] theorem Transport.markLast_house (t : Transport) (b : Bool) : (t.markLast b).house = t.house := rfl

@[simp] theorem Transport.setPending_st (t : Transport) (b : Bool) : (t.setPending b).st = t.st := by
  cases b <;> rfl

@[simp] theorem Transport.setPending_house (t : Transport) (b : Bool) : (t.setPending b).house = t.house := by
  cases b <;> rfl

theorem Transport.setPending_plan (t : Transport) (b : Bool) : (t.setPending b).plan = (t.markLast true).plan := by
  cases b <;> rfl

/-- Entries with the code and index of entries of the plan carry the set list's codes when those do. -/
theorem markLast_codes {s : State} {b : Bool} (h : ∀ e ∈ s.tr.plan, e.code = s.codeAt e.index) :
    ∀ e ∈ (s.tr.markLast b).plan, e.code = s.codeAt e.index := by
  intro e he
  obtain ⟨x, hx, code, index⟩ := mem_markLast he
  rw [code, index]
  exact h x hx

theorem push_codes {s : State} {t : Transport} {e : PlanEntry} (he : e.code = s.codeAt e.index)
    (h : ∀ e ∈ t.plan, e.code = s.codeAt e.index) : ∀ x ∈ (t.push e).plan, x.code = s.codeAt x.index := by
  intro x hx
  rcases List.mem_append.1 hx with hx | hx
  · exact h x hx
  · rw [List.mem_singleton.1 hx]; exact he

theorem State.codeAt_of_getElem? {s : State} {i : Nat} {e : SegmentEntry} (h : s.setList[i]? = some e) :
    e.code = s.codeAt i := by
  simp [State.codeAt, h]

/-- An append leaves the transport's state, and changes transport and notice queue alone. -/
theorem appendPlain_st (i o p : Nat) (e : SegmentEntry) (s : State) : (appendPlain i o p e s).tr.st = s.tr.st := by
  unfold appendPlain
  split
  · rfl
  · split
    · rfl
    · exact Transport.setPending_st _ _

theorem append_st (c : Nat) (s : State) : (append c s).tr.st = s.tr.st := by
  unfold append
  split
  · rfl
  · split
    · rfl
    · split
      · unfold appendNext
        dsimp only
        split
        · split
          · split
            · rfl
            · exact appendPlain_st _ _ _ _ _
          · exact appendPlain_st _ _ _ _ _
        · exact appendPlain_st _ _ _ _ _
      · rfl

theorem catchUp_st : ∀ (n : Nat) (s : State), (catchUp n s).tr.st = s.tr.st
  | 0, _ => rfl
  | n + 1, s => by
    unfold catchUp
    split
    · rfl
    · rw [catchUp_st n, append_st]

namespace Kept

variable {P : State → Prop} {s : State}

theorem push (k : Kept P) {e : PlanEntry} (running : ¬s.Stopped) (code : e.code = s.codeAt e.index) (p : P s) :
    P (s.onTr (·.push e)) := k.tr (.planned running rfl Iff.rfl (push_codes code)) p

theorem appendPlain (k : Kept P) {i o q : Nat} {e : SegmentEntry} (running : ¬s.Stopped) (code : e.code = s.codeAt i)
    (p : P s) : P (appendPlain i o q e s) := by
  unfold Machine.appendPlain
  refine k.either (k.push running code p) (k.either (k.push running rfl p) ?_)
  refine k.tr (.planned running (Transport.setPending_st _ _) (by rw [Transport.setPending_house]) fun h => ?_) p
  rw [Transport.setPending_plan]
  exact markLast_codes h

theorem append (k : Kept P) (c : Nat) (running : ¬s.Stopped) (p : P s) : P (append c s) := by
  unfold Machine.append
  split
  · exact p
  · rename_i l _
    split
    · exact k.tr (.planned running rfl Iff.rfl
        (push_codes (e := ⟨l.pos.index, s.codeAt l.pos.index, l.pos.offset, 0, _⟩) rfl)) p
    · split
      · rename_i e he
        have code := State.codeAt_of_getElem? he
        unfold Machine.appendNext
        dsimp only
        split
        · split
          · split
            · exact k.raise _ (k.push running code p)
            · exact k.raise _ (k.appendPlain (s := s.onTr fun t => { t with latch := false }) running code
                (k.tr (.beside rfl rfl rfl) p))
          · exact k.appendPlain running code p
        · exact k.appendPlain running code p
      · exact p

theorem boundaryAppend (k : Kept P) (c : Nat) (running : ¬s.Stopped) (p : P s) : P (boundaryAppend c s) :=
  k.either p (k.append c running p)

theorem catchUp (k : Kept P) : ∀ (n : Nat) {s : State}, ¬s.Stopped → P s → P (catchUp n s)
  | 0, _, _, p => p
  | n + 1, s, running, p => by
    unfold Machine.catchUp
    refine k.either p (catchUp k n ?_ (k.append _ running p))
    rwa [State.not_stopped, append_st, ← State.not_stopped]

/-! ## GO, RELEASE, presses -/

theorem raiseTransport (k : Kept P) (r : TransportReason) (p : P s) : P (raiseTransport r s) := k.raise _ p

end Kept

theorem goTarget_move {s : State} {g : Group} : g.source = goGroup.goTarget s.isCued s.prefs → g.source = .fallback ∨
    ∃ r, g.source = .rig r ∧ ((s.tracker r).st = .excluded → (s.tracker r).cued = true) := by
  intro h
  unfold goGroup.goTarget at h
  split at h
  · rename_i r hr
    exact .inr ⟨r, h, fun _ => List.find?_some (p := s.isCued) hr⟩
  · exact .inl h

/-- The source and the mark of a group after GO's reassignment (R155). -/
theorem goGroup_cases (cued : Rig → Bool) (prefs : List Rig) (g : Group) :
    (goGroup cued prefs g).num = g.num ∧ (goGroup cued prefs g).gdef = g.gdef ∧
      ((goGroup cued prefs g) = g ∨ (goGroup cued prefs g).uncovered = false) ∧
      ((goGroup cued prefs g).source = g.source ∨ (goGroup cued prefs g).source = goGroup.goTarget cued prefs) := by
  unfold goGroup
  split
  · split
    · split
      · exact ⟨rfl, rfl, .inr rfl, .inl rfl⟩
      · exact ⟨rfl, rfl, .inr rfl, .inr rfl⟩
    · exact ⟨rfl, rfl, .inr rfl, .inr rfl⟩
  · exact ⟨rfl, rfl, .inl rfl, .inl rfl⟩

/-- Groups placed on a source, marks cleared, where the source may stand. -/
theorem place_groupsMove {s : State} {src : Source} (p : Group → Bool)
    (h : src = .fallback ∨
      (s.tr.st ≠ .idle ∧ ∃ r, src = .rig r ∧ ((s.tracker r).st = .excluded → (s.tracker r).cued = true))) :
    GroupsMove s (s.groups.map fun g => if p g then g.place src else g) where
  safe k := k.map (fun g => by split <;> exact ⟨rfl, rfl⟩) fun g hg hu => by
    split at hu
    · cases hu
    · rename_i hp; rw [if_neg hp]; exact k.mark g hg hu
  sources g hg := by
    obtain ⟨x, hx, rfl⟩ := List.mem_map.1 hg
    split
    · rcases h with h | h
      · exact .inr (.inl h)
      · exact .inr (.inr (.inr h))
    · exact .inl ⟨x, hx, rfl⟩

theorem State.armSource_cases (s : State) :
    s.armSource = .fallback ∨ ∃ r, s.armSource = .rig r ∧ (s.tracker r).st ≠ .excluded := by
  unfold State.armSource
  split
  · rename_i r hr
    exact .inr ⟨r, rfl, by simpa [State.isExcluded] using List.find?_some hr⟩
  · exact .inl rfl

namespace Kept

variable {P : State → Prop} {s : State}

theorem placeAll (k : Kept P) {src : Source}
    (h : src = .fallback ∨
      (s.tr.st ≠ .idle ∧ ∃ r, src = .rig r ∧ ((s.tracker r).st = .excluded → (s.tracker r).cued = true))) (p : P s) :
    P (placeAll src s) :=
  k.writeGroups (f := fun gs => gs.map (Group.place src)) (by simpa using place_groupsMove (fun _ => true) h) p

theorem goParked (k : Kept P) (src : PressSource) (parked : s.tr.st = .parked) (p : P s) : P (goParked src s) := by
  have reassigned : P (goReassign s) := by
    refine k.writeGroups ⟨fun h => h.map (fun g => ?_) fun g hg hu => ?_, fun g hg => ?_⟩ p
    · exact ⟨(goGroup_cases s.isCued s.prefs g).1, (goGroup_cases s.isCued s.prefs g).2.1⟩
    · obtain ⟨-, -, e | e, -⟩ := goGroup_cases s.isCued s.prefs g
      · rw [e] at hu ⊢; exact h.mark g hg hu
      · rw [e] at hu; cases hu
    · obtain ⟨x, hx, rfl⟩ := List.mem_map.1 hg
      obtain ⟨-, -, -, e | e⟩ := goGroup_cases s.isCued s.prefs x
      · exact .inl ⟨x, hx, e⟩
      · rcases goTarget_move e with f | f
        · exact .inr (.inl f)
        · exact .inr (.inr (.inr ⟨by simp [parked], f⟩))
  have tr : (goReassign s).tr = s.tr := (ArbiterWork.writeGroups (map_defs (fun g =>
    ⟨(goGroup_cases s.isCued s.prefs g).1, (goGroup_cases s.isCued s.prefs g).2.1⟩) _)).tr
  have st : (goReassign s).tr.st = .parked := by rw [tr]; exact parked
  exact k.raiseTransport .go (k.tr
    (.halted (by simp [st]) (by simp) (fun h => h.house_ne (by simp [st]))
      fun h => h.plan_nil ⟨by simp [st], by simp [st]⟩) reassigned)

theorem goCancel (k : Kept P) (src : PressSource) (rolling : s.tr.st = .rolling) (p : P s) : P (goCancel src s) := by
  have running : ¬s.Stopped := State.not_stopped.2 (.inr rolling)
  unfold Machine.goCancel
  dsimp only
  have cancelled : P (s.onTr fun t =>
      { t.markLast false with parkPending := false, cause := some ⟨.go, src, s.block⟩ }) :=
    k.tr (.planned running rfl Iff.rfl markLast_codes) p
  split
  · rename_i l _
    exact k.catchUp _ (s := (s.onTr fun t =>
        { t.markLast false with parkPending := false, cause := some ⟨.go, src, s.block⟩ }).onTr
          (·.push (parkSuccessor _ l.pos.index))) running (k.push running rfl cancelled)
  · exact cancelled

theorem goWork (k : Kept P) (src : PressSource) (p : P s) : P (goWork src s).1 := by
  unfold Machine.goWork
  split
  · split
    · exact k.goParked src ‹_› p
    · exact p
  · split
    · exact k.goCancel src ‹_› p
    · exact p
  · exact p

theorem releaseWork (k : Kept P) (src : PressSource) (p : P s) : P (releaseWork src s).1 := by
  unfold Machine.releaseWork
  split
  · split
    · exact p
    · exact k.tr (.beside rfl rfl rfl) p
  · exact p

theorem press (k : Kept P) (src : PressSource) (p : P s) : P (press src s) := by
  unfold Machine.press
  split
  · split
    · exact k.either (k.goWork src p) (k.raise _ p)
    · exact k.either (k.goWork src p) (k.either (k.releaseWork src p) p)
    · exact p
  · exact p

theorem cueDebounce (k : Kept P) (p : P s) : P (cueDebounce s) := by
  unfold Machine.cueDebounce
  dsimp only
  have recognised : P (s.onTr fun t => { t with cueLevel := otherLevel t.cueLevel, cueCount := 0 }) :=
    k.tr (.beside rfl rfl rfl) p
  exact k.either (k.either (k.press .cueLine recognised) recognised) p

theorem rigCue (k : Kept P) (r : Rig) (cue : Bool) (p : P s) : P (rigCue r cue s) := by
  unfold Machine.rigCue
  dsimp only
  exact k.either (k.setRigCue r none p) (k.either (k.press _ (k.setRigCue r _ p)) (k.setRigCue r _ p))

/-! ## Messages on the rig links -/

theorem placeBlock (k : Kept P) {r : Rig} (retaps : Retaps P r) (h : BlockHead) (samples : List Byte) (p : P s) :
    P (placeBlock r h samples s) := by
  unfold Machine.placeBlock
  dsimp only
  generalize stampOf (s.port r) s.now = x
  have written : P (s.setPort r ((s.port r).takeBlock h samples s.now x.1 x.2)) :=
    k.port (·.takeBlock h samples s.now x.1 x.2) p
  generalize (s.port r).takeBlock h samples s.now x.1 x.2 = q at written ⊢
  have linked := k.either (c := q.link = (s.port r).link) written
    (k.either (c := q.link = .locked) (k.linkLocked r written) (k.raiseRigState r false written))
  have cued := k.either (c := h.tagOk = true) (k.rigCue r h.cue linked) linked
  exact k.either (k.blockReport retaps _ _ cued) cued

theorem takeBlock (k : Kept P) {r : Rig} (retaps : Retaps P r) (h : BlockHead) (samples : List Byte) (p : P s) :
    P (takeBlock r h samples s) := by
  unfold Machine.takeBlock
  dsimp only
  exact k.placeBlock retaps h samples (k.expireLate r 8 (k.either (k.silenceLimit r p) p))

theorem rigMessage (k : Kept P) {r : Rig} (retaps : Retaps P r) (bytes : List Byte) (p : P s) :
    P (rigMessage r bytes s) := by
  unfold Machine.rigMessage
  split
  · exact k.takeBlock retaps _ _ p
  · split
    · exact k.takeBeat r _ p
    · exact p

/-! ## The transport's commands -/

theorem onTc (k : Kept P) (f : Timecode → Timecode) (p : P s) : P (s.onTc f) := k.aside rfl p

theorem armTaken (k : Kept P) (idle : s.tr.st = .idle) (p : P s) : P (armTaken s) := by
  have parked : P (s.onTr fun t =>
      { t with
        st := .parked, house := some ⟨0, 0, 0⟩, lead := none, jumpPending := false, plan := [], latch := false
        parkPending := false, endPending := false, cause := none }) :=
    k.tr (.halted (by simp [idle]) (by simp) (by simp) fun _ => rfl) p
  unfold Machine.armTaken
  dsimp only
  refine k.raiseTransport .arm (k.onTc _ (k.foldl (fun s r p => ?_) _ (k.placeAll ?_ parked)))
  · unfold armTracker
    dsimp only
    have armed := k.still (.arm (s.tracker r)) p
    exact k.either (k.raiseRigState r false armed) armed
  · rcases State.armSource_cases (s.onTr fun t =>
      { t with
        st := .parked, house := some ⟨0, 0, 0⟩, lead := none, jumpPending := false, plan := [], latch := false
        parkPending := false, endPending := false, cause := none }) with h | ⟨r, e, h⟩
    · exact .inl h
    · exact .inr ⟨TState.noConfusion, r, e, fun x => absurd x h⟩

theorem armWork (k : Kept P) (p : P s) : P (armWork s).1 := by
  unfold Machine.armWork
  split
  · split
    · exact p
    · exact k.armTaken ‹_› p
  · exact p

theorem goIdle (k : Kept P) (st : s.tr.st = .parked ∨ s.tr.st = .ended) (p : P s) : P (goIdle s) :=
  k.onTc (s := Machine.lossReports s.groups { s with tr := s.tr.toIdle, groups := s.groups.map (Group.place .fallback) }) _
    (k.lossReports _ (k.idle st p))

theorem disarmWork (k : Kept P) (p : P s) : P (disarmWork s).1 := by
  unfold Machine.disarmWork
  split
  · exact k.raiseTransport _ (k.goIdle (.inl ‹_›) p)
  · exact k.raiseTransport _ (k.goIdle (.inr ‹_›) p)
  · exact p
  · exact p

theorem halted (k : Kept P) (st : s.tr.st = .starting ∨ s.tr.st = .rolling) (p : P s) :
    P (Machine.raiseTransport .halt
      (Machine.stopRun .parked (s.tr.house.map fun p => { p with pass := 0 }) .halt s)) := by
  refine k.raiseTransport _ (k.stopRun _ (State.not_stopped.2 st) (.inl rfl) (fun h e => ?_) p)
  exact h.house_ne (by rcases st with st | st <;> simp [st]) (Option.map_eq_none_iff.1 e)

theorem haltWork (k : Kept P) (p : P s) : P (haltWork s).1 := by
  unfold Machine.haltWork
  split
  · exact k.halted (.inl ‹_›) p
  · exact k.halted (.inr ‹_›) p
  · exact p

theorem runEnd (k : Kept P) (rolling : s.tr.st = .rolling) (p : P s) : P (runEnd s) := by
  have running : ¬s.Stopped := State.not_stopped.2 (.inr rolling)
  have house (h : s.PlanSafe) : s.tr.house ≠ none := h.house_ne (by simp [rolling])
  unfold Machine.runEnd
  split
  · exact k.raiseTransport _ (k.onTc _ (k.stopRun _ running (.inl rfl)
      (fun h e => house h (Option.map_eq_none_iff.1 e)) p))
  · exact k.raiseTransport _ (k.onTc _ (k.stopRun _ running (.inr rfl) house p))

theorem locateWork (k : Kept P) (index offset : Nat) (p : P s) : P (locateWork index offset s).1 := by
  unfold Machine.locateWork
  split
  · exact p
  · rename_i idle
    split
    · exact p
    · split
      · rename_i starting
        exact k.raiseTransport _ (k.onTc _ (k.tr ⟨fun h => ⟨⟨⟨by simp, fun e => absurd e idle⟩, fun _ _ => rfl⟩,
          by simp⟩, .inl rfl⟩ p))
      · rename_i rolling
        have running : ¬s.Stopped := State.not_stopped.2 (.inr rolling)
        unfold locateRolling
        dsimp only
        refine k.raiseTransport _ (k.either (k.catchUp _ ?_ ?_) (k.tr (.beside rfl rfl rfl) p))
        · exact running
        · exact k.tr (.planned running rfl Iff.rfl markLast_codes) p
      · rename_i notStarting notRolling
        exact k.raiseTransport _ (k.onTc _ (k.clearAllCued (k.tr
          (.halted notRolling (by simp) (by simp) fun h => h.plan_nil ⟨notStarting, notRolling⟩) p)))

/-! ## Edits (R40) -/

theorem resolveTo (k : Kept P) {st : TState} {pos : Pos} (stopped : s.Stopped) (left : st ≠ .idle) (p : P s) :
    P (resolveTo st pos s) :=
  k.raiseTransport _ (k.onTc _ (k.clearAllCued (k.tr
    (.halted stopped.2 left (by simp) fun h => h.plan_nil stopped) p)))

theorem editReport (k : Kept P) (e : Edit) (p : P s) : P (editReport e s) := by
  unfold Machine.editReport
  split
  · rename_i st
    have stopped : s.Stopped := by rcases st with st | st <;> simp [State.Stopped, st]
    split
    · unfold resolveAt
      split
      · exact k.raiseTransport _ (k.clearAllCued (k.goIdle st p))
      · split
        · exact k.resolveTo stopped (by simp) p
        · exact k.either (k.resolveTo stopped (by rcases st with st | st <;> simp [st]) p) p
    · exact p
  · exact p

/-! ## The boundary and the output frame -/

theorem startCountdown (k : Kept P) (p : P s) : P (startCountdown s) := by
  unfold Machine.startCountdown
  split
  · rename_i due
    simp only [startDue, Bool.and_eq_true, beq_iff_eq] at due
    have rolling : TransportMove s { s.tr with st := .rolling, heard := false } :=
      ⟨fun h => ⟨⟨⟨fun e => absurd e (h.house_ne (by simp [due.1])), by simp⟩, by simp⟩, h.codes⟩,
        .inr ⟨by simp [due.1], by simp⟩⟩
    exact k.rollArrival (k.foldl (fun _ r => k.renew r) _ (k.raiseTransport _ (k.tr rolling p)))
  · exact p

theorem formHeld (k : Kept P) (p : P s) : P (formHeld s) := by
  refine k.aside ?_ p
  unfold Machine.formHeld
  split
  · split
    · dsimp only; split <;> rfl
    · rfl
  · rfl

theorem forceTake (k : Kept P) (n : Nat) (p : P s) : P (forceTake s n) := by
  unfold Machine.forceTake
  split
  · exact k.takeStart n p
  · exact k.takeWaitExpiry n p
  · exact k.rampEnd n p
  · exact k.settleEnd n p
  · exact p

theorem forceDue (k : Kept P) (p : P s) : P (forceDue s) :=
  k.formHeld (k.foldl (fun _ n => k.forceTake n) _
    (k.foldl (fun _ r h => k.beatExpiry r (k.verifyExpiry r h)) _ (k.cueDebounce (k.startCountdown p))))

theorem dequeue (k : Kept P) {e : PlanEntry} {rest : List PlanEntry} (rolling : s.tr.st = .rolling)
    (plan : s.tr.plan = e :: rest) (p : P s) : P (dequeue e rest s) := by
  have running : ¬s.Stopped := State.not_stopped.2 (.inr rolling)
  have heard : P (s.onTr fun t =>
      { t with house := some ⟨e.index, e.offset, e.pass⟩, plan := rest, heard := true }) :=
    k.tr ⟨fun h => ⟨⟨⟨by simp, fun x => absurd (rolling.symm.trans x) (by simp)⟩,
        fun _ x => absurd rolling x⟩, fun x hx => h.codes x (by rw [plan]; exact .tail _ hx)⟩, .inl rfl⟩ p
  unfold Machine.dequeue
  dsimp only
  have started := k.either (c := e.marks.segmentStart = true) (k.raise (.segmentStart e.index e.code e.marks.jump) heard)
    heard
  refine k.onTc _ (k.either (k.foldl (fun s r p => ?_) _ started) started)
  unfold jumpTracker
  dsimp only
  split
  · exact k.raiseRigState r false (k.still ⟨.online (fun h => { h with }) (by simp), rfl⟩ p)
  · exact k.still ⟨.within (fun h => { h with }) rfl rfl, rfl⟩ p
  · exact p

end Kept

@[simp] theorem raiseRigState_st (r : Rig) (b : Bool) (s : State) : (raiseRigState r b s).tr = s.tr := rfl

theorem jumpTracker_tr (s : State) (r : Rig) : (jumpTracker s r).tr = s.tr := by
  unfold jumpTracker
  dsimp only
  split <;> rfl

theorem jumpAll_tr (s : State) : (jumpAll s).tr = s.tr := by
  simp [jumpAll, Rig.all, jumpTracker_tr]

theorem dequeue_st (e : PlanEntry) (rest : List PlanEntry) (s : State) : (dequeue e rest s).tr.st = s.tr.st := by
  unfold dequeue
  dsimp only [State.onTc]
  split
  · rw [jumpAll_tr]; split <;> rfl
  · split <;> rfl

namespace Kept

variable {P : State → Prop} {s : State}

theorem transportBoundary (k : Kept P) (p : P s) : P (transportBoundary s) := by
  unfold Machine.transportBoundary
  split
  · rename_i starting
    exact k.tr (.beside rfl rfl rfl) (k.boundaryAppend _ (State.not_stopped.2 (.inl starting)) p)
  · rename_i rolling
    unfold rollingBoundary
    split
    · exact k.runEnd rolling p
    · rename_i e rest plan
      have running : ¬(Machine.dequeue e rest s).Stopped := by
        rw [State.not_stopped, dequeue_st]; exact .inr rolling
      have appended := k.boundaryAppend 0 running (k.dequeue rolling plan p)
      exact k.either appended (k.onTrackers .verifyBoundary appended)
  · exact p

theorem takesBoundary (k : Kept P) (p : P s) : P (takesBoundary s) := by
  have cases (t : Take) : (takeBoundary s t).num = t.num ∧ (takeBoundary s t).target = t.target ∧
      (takeBoundary s t).engine = t.engine ∧ (takeBoundary s t).st = t.st := by
    unfold takeBoundary
    split
    · dsimp only; split <;> exact ⟨rfl, rfl, rfl, rfl⟩
    · dsimp only; split <;> exact ⟨rfl, rfl, rfl, rfl⟩
    · exact ⟨rfl, rfl, rfl, rfl⟩
    · exact ⟨rfl, rfl, rfl, rfl⟩
  refine k.takes ⟨fun t _ => (cases t).1, fun h t ht => ?_, fun t _ => .inl (cases t).2.1⟩ p
  rw [(cases t).2.2.1, (cases t).2.2.2]
  exact h t ht

theorem sendReferences (k : Kept P) (p : P s) : P (sendReferences s) := by
  have sent (u : State) (r : Rig) (ref : Reference) (h : P u) : P (u.setPort r { u.port r with lastRef := some ref }) :=
    k.port (fun h => { h with }) h
  exact sent ((s.setPort .A { s.port .A with lastRef := some (referenceOf s .A) }).setPort .B
    { s.port .B with lastRef := some (referenceOf s .B) }) .C (referenceOf s .C)
      (sent (s.setPort .A { s.port .A with lastRef := some (referenceOf s .A) }) .B (referenceOf s .B)
        (sent s .A (referenceOf s .A) p))

theorem heldBoundary (k : Kept P) (p : P s) : P (heldBoundary s) := by
  refine k.aside ?_ p
  unfold Machine.heldBoundary
  split
  · rfl
  · rfl
  · split <;> rfl

theorem cueSample (k : Kept P) (cue : Level) (p : P s) : P (cueSample cue s) := k.tr (.beside rfl rfl rfl) p

theorem boundary (k : Kept P) (cue : Level) (p : P s) : P (boundary cue s) := by
  have moved := k.transportBoundary (k.heldBoundary (k.aside (t := nextBlock (Machine.forceDue s)) rfl (k.forceDue p)))
  exact k.sendReferences (k.aside (s := Machine.takesBoundary (beatBoundary (Machine.cueSample cue _))) rfl
    (k.takesBoundary (k.onTrackers (.beatBoundary _) (k.cueSample cue moved))))

theorem outputFrame (k : Kept P) (p : P s) : P (outputFrameWork s) := by
  have rampFrame (t : Take) : t.rampFrame.num = t.num ∧ t.rampFrame.target = t.target ∧
      t.rampFrame.engine = t.engine ∧ t.rampFrame.st = t.st := by
    unfold Take.rampFrame
    split <;> exact ⟨rfl, rfl, rfl, rfl⟩
  have running (u : State) : Aside u (formRunning u) := by
    unfold formRunning
    split
    · split
      · split
        · dsimp only; split <;> rfl
        · rfl
      · rfl
    · rfl
  have formed (u : State) (h : P u) : P (formRunning { u with program := programFrame u }) :=
    k.aside (running _) (k.aside (s := u) rfl h)
  have ramped (u : State) (h : P u) : P { u with sw := { u.sw with takes := u.sw.takes.map Take.rampFrame } } := by
    refine k.takes ⟨fun t _ => (rampFrame t).1, fun h t ht => ?_, fun t _ => .inl (rampFrame t).2.1⟩ h
    rw [(rampFrame t).2.2.1, (rampFrame t).2.2.2]
    exact h t ht
  unfold outputFrameWork formFrame
  dsimp only
  refine k.either ?_ p
  have framed := ramped _ (formed _ (k.forceDue p))
  generalize formRunning _ = u at framed ⊢
  exact k.aside (s := { u with sw := { u.sw with takes := u.sw.takes.map Take.rampFrame } }) rfl framed

/-- Every event keeps what the primitive writes keep, when a rig's message does. -/
theorem event (k : Kept P) {f : State → State} (h : EventWork f)
    (message : ∀ r bytes, f = Machine.rigMessage r bytes → P (Machine.rigMessage r bytes s)) (p : P s) : P (f s) := by
  cases h with
  | boundary cue => exact k.boundary cue p
  | startCountdown => exact k.startCountdown p
  | cueDebounce => exact k.cueDebounce p
  | verifyExpiry r => exact k.verifyExpiry r p
  | beatExpiry r => exact k.beatExpiry r p
  | formHeld => exact k.formHeld p
  | rigMessage r bytes => exact message r bytes rfl
  | slotExpiry r => exact k.slotExpiry r p
  | silenceLimit r => exact k.silenceLimit r p
  | takeStart n => exact k.takeStart n p
  | takeWaitExpiry n => exact k.takeWaitExpiry n p
  | rampEnd n => exact k.rampEnd n p
  | settleEnd n => exact k.settleEnd n p
  | outputFrame => exact k.outputFrame p
  | timeMessageEnd => exact k.onTc _ p
  | storeWriteEnd damage =>
    unfold storeWriteEndWork
    split
    · exact k.either (k.raise _ (k.aside (s := s) rfl p)) (k.raise _ (k.aside (s := s) rfl p))
    · exact p
  | storeTimeout written =>
    unfold storeTimeoutWork
    split
    · exact k.raise _ (k.aside rfl p)
    · exact p

end Kept

end Sys2Proof.Machine
end

section
/-! SUPPORT. The desk Commands' works, one by one, and the induction over steps: a predicate that every primitive write keeps
everywhere is kept by every step. -/

namespace Sys2Proof.Machine

/-! ## The set list's edits (R6 to R10) -/

/-- An entry that passes check 5 has the fields that were given. -/
theorem fields_of_checkEntry {f : EntryFields} {e : SegmentEntry} (h : checkEntry f = some e) : e.fields = f := by
  obtain ⟨-, v, t, c, hv, ht, hc, rfl⟩ := checkEntry_eq_some_iff.1 h
  obtain ⟨code, length, act, vi, vo, pl, tempo, beats, downbeat, tcStart, tcRate⟩ := f
  have vamp : v.map (·.vampIn) = vi ∧ v.map (·.vampOut) = vo ∧ v.bind (·.passLimit) = pl := by
    dsimp only at hv
    unfold checkVamp at hv
    split at hv
    · cases hv; exact ⟨rfl, rfl, rfl⟩
    · split at hv
      · cases hv; exact ⟨rfl, rfl, rfl⟩
      · cases hv
    · cases hv
  have beat : t.map (·.tempo) = tempo ∧ t.map (·.beats) = beats ∧ t.map (·.downbeat) = downbeat := by
    dsimp only at ht
    unfold checkTempo at ht
    split at ht
    · cases ht; exact ⟨rfl, rfl, rfl⟩
    · split at ht
      · cases ht; exact ⟨rfl, rfl, rfl⟩
      · cases ht
    · cases ht
  have tc : c.map (·.start) = tcStart ∧ c.map (·.rate) = tcRate := by
    dsimp only at hc
    unfold checkTimecode at hc
    split at hc
    · cases hc; exact ⟨rfl, rfl⟩
    · split at hc
      · cases hc; exact ⟨rfl, rfl⟩
      · cases hc
    · cases hc
  obtain ⟨rfl, rfl, rfl⟩ := vamp
  obtain ⟨rfl, rfl, rfl⟩ := beat
  obtain ⟨rfl, rfl⟩ := tc
  rfl

theorem valid_of_checkEntry {f : EntryFields} {e : SegmentEntry} (h : checkEntry f = some e) : e.fields.Valid := by
  rw [fields_of_checkEntry h, ← checkEntry_isSome, h]
  rfl

/-- No entry at another index carries the code. -/
theorem codeElsewhere_eq_false {l : List SegmentEntry} {index code : Nat} :
    codeElsewhere l index code = false ↔ ∀ (j : Nat) (e : SegmentEntry), j ≠ index → l[j]? = some e → e.code ≠ code := by
  rw [← Bool.not_eq_true, codeElsewhere_eq_true]
  push Not
  exact Iff.rfl

theorem SetListSafe.append {l : List SegmentEntry} {e : SegmentEntry} (h : SetListSafe l) (valid : e.fields.Valid)
    (room : l.length ≠ Config.maxEntries) (fresh : codeElsewhere l l.length e.code = false) : SetListSafe (l ++ [e]) := by
  obtain ⟨size, entries, codes⟩ := h
  refine ⟨by simp; omega, fun x hx => ?_, ?_⟩
  · rcases List.mem_append.1 hx with hx | hx
    · exact entries x hx
    · rw [List.mem_singleton.1 hx]; exact valid
  · rw [List.map_append, List.nodup_append]
    refine ⟨codes, List.nodup_singleton _, fun a ha b hb => ?_⟩
    obtain ⟨x, hx, rfl⟩ := List.mem_map.1 ha
    obtain ⟨j, hj, rfl⟩ := List.mem_iff_getElem.1 hx
    rw [List.mem_singleton.1 hb]
    exact codeElsewhere_eq_false.1 fresh j _ (Nat.ne_of_lt hj) (List.getElem?_eq_getElem hj)

theorem SetListSafe.set {l : List SegmentEntry} {e : SegmentEntry} {i : Nat} (h : SetListSafe l) (valid : e.fields.Valid)
    (fresh : codeElsewhere l i e.code = false) : SetListSafe (l.set i e) := by
  obtain ⟨size, entries, codes⟩ := h
  refine ⟨by simpa using size, fun x hx => ?_, ?_⟩
  · rcases List.mem_or_eq_of_mem_set hx with hx | rfl
    · exact entries x hx
    · exact valid
  · rw [List.nodup_iff_getElem?_ne_getElem?] at codes ⊢
    intro a b hab hb
    have replaced := codeElsewhere_eq_false.1 fresh
    simp only [List.length_map, List.length_set] at hb
    have ha : a < l.length := by omega
    have old := codes a b hab (by simpa using hb)
    simp only [List.getElem?_map, List.getElem?_set, List.getElem?_eq_getElem ha, List.getElem?_eq_getElem hb,
      Option.map_some] at old ⊢
    by_cases ia : i = a
    · have ib : i ≠ b := by omega
      have := replaced b l[b] ib.symm (List.getElem?_eq_getElem hb)
      simp [ia, ha, show a ≠ b by omega, this.symm]
    · by_cases ib : i = b
      · have := replaced a l[a] (Ne.symm ia) (List.getElem?_eq_getElem ha)
        simp [ib, hb, show b ≠ a by omega, this]
      · simpa [ia, ib] using old

theorem SetListSafe.eraseIdx {l : List SegmentEntry} (h : SetListSafe l) (i : Nat) : SetListSafe (l.eraseIdx i) := by
  obtain ⟨size, entries, codes⟩ := h
  have sub : (l.eraseIdx i).Sublist l := List.eraseIdx_sublist l i
  exact ⟨sub.length_le.trans size, fun e he => entries e (sub.subset he), codes.sublist (sub.map _)⟩

theorem SetListSafe.nil : SetListSafe [] := ⟨by decide, by simp, List.nodup_nil⟩

theorem nodup_of_noRepeats {α : Type} [DecidableEq α] : ∀ {l : List α}, noRepeats l = true → l.Nodup
  | [], _ => List.nodup_nil
  | x :: xs, h => by
    simp only [noRepeats, Bool.and_eq_true, Bool.not_eq_true', List.contains_eq_mem, decide_eq_false_iff_not] at h
    exact List.nodup_cons.2 ⟨h.1, nodup_of_noRepeats h.2⟩

/-- A good copy holds a set list that the edits can build (R13, R14). -/
theorem SetListSafe.of_contents {c : Contents} (h : c.ok = true) : SetListSafe c.setList := by
  simp only [Contents.ok, Bool.and_eq_true, decide_eq_true_eq] at h
  obtain ⟨⟨⟨⟨⟨size, entries⟩, codes⟩, -⟩, -⟩, -⟩ := h
  refine ⟨size, fun e he => ?_, nodup_of_noRepeats codes⟩
  have ok := List.all_eq_true.1 entries e he
  rw [SegmentEntry.ok, beq_iff_eq] at ok
  exact valid_of_checkEntry ok

/-! ## The group table's edits (R150, R151) -/

theorem GroupDef.overlaps_eq_false {d e : GroupDef} : d.overlaps e = false ↔ d.last < e.first ∨ e.last < d.first := by
  simp only [GroupDef.overlaps, decide_eq_false_iff_not]
  omega

/-- The groups of a good copy form a group table (R149). -/
theorem GroupsSafe.of_contents {c : Contents} (h : c.ok = true) : GroupsSafe (c.groups.map recalledGroup) := by
  simp only [Contents.ok, groupDefsOk, Bool.and_eq_true, decide_eq_true_eq, List.all_eq_true, GroupDef.inRange,
    Bool.not_eq_true', List.isEmpty_eq_false_iff, GroupDef.overlaps_eq_false] at h
  obtain ⟨⟨⟨-, ⟨some_, range⟩, apart⟩, -⟩, -⟩ := h
  refine ⟨by simpa using some_, fun g hg => ?_, fun g hg => ?_, by simpa [recalledGroup, List.pairwise_map] using apart,
    fun g hg hu => ?_⟩ <;> obtain ⟨x, hx, rfl⟩ := List.mem_map.1 hg
  · exact (range x hx).1
  · exact (range x hx).2
  · cases hu

theorem mem_insertGroup {g x : Group} : ∀ {gs : List Group}, x ∈ insertGroup g gs → x = g ∨ x ∈ gs
  | [], h => .inl (List.mem_singleton.1 h)
  | y :: ys, h => by
    unfold insertGroup at h
    split at h
    · rcases List.mem_cons.1 h with h | h
      · exact .inl h
      · split at h
        · exact .inr (.tail _ h)
        · exact .inr h
    · rcases List.mem_cons.1 h with h | h
      · exact .inr (h ▸ .head _)
      · exact (mem_insertGroup h).imp_right (.tail _)

theorem insertGroup_ne_nil (g : Group) (gs : List Group) : insertGroup g gs ≠ [] := by
  cases gs with
  | nil => simp [insertGroup]
  | cons x xs => unfold insertGroup; split <;> simp

/-- A group put in its place keeps the table in number order and its ranges apart (R150). -/
theorem insertGroup_apart {g : Group} : ∀ {gs : List Group},
    (gs.Pairwise fun x y => x.num < y.num ∧ (x.gdef.last < y.gdef.first ∨ y.gdef.last < x.gdef.first)) →
    (∀ x ∈ gs, x.num ≠ g.num → x.gdef.last < g.gdef.first ∨ g.gdef.last < x.gdef.first) →
    (insertGroup g gs).Pairwise fun x y => x.num < y.num ∧ (x.gdef.last < y.gdef.first ∨ y.gdef.last < x.gdef.first)
  | [], _, _ => List.pairwise_singleton _ _
  | y :: ys, apart, clear => by
    obtain ⟨first, rest⟩ := List.pairwise_cons.1 apart
    have after (x : Group) (hx : x ∈ ys) (lt : g.num < x.num) :
        g.num < x.num ∧ (g.gdef.last < x.gdef.first ∨ x.gdef.last < g.gdef.first) :=
      ⟨lt, (clear x (.tail _ hx) (by omega)).symm⟩
    unfold insertGroup
    split
    · rename_i le
      split
      · rename_i eq
        exact List.pairwise_cons.2 ⟨fun x hx => after x hx (eq ▸ (first x hx).1), rest⟩
      · rename_i ne
        refine List.pairwise_cons.2 ⟨fun x hx => ?_, apart⟩
        rcases List.mem_cons.1 hx with rfl | hx
        · exact ⟨by omega, (clear x (.head _) (Ne.symm ne)).symm⟩
        · exact after x hx (by have := (first x hx).1; omega)
    · rename_i lt
      refine List.pairwise_cons.2 ⟨fun x hx => ?_, insertGroup_apart rest fun x hx => clear x (.tail _ hx)⟩
      rcases mem_insertGroup hx with rfl | hx
      · exact ⟨by omega, clear y (.head _) (by omega)⟩
      · exact first x hx

/-- The group that SET GROUP defines: where it stands already it keeps its state, and a new one is placed as ARM would
(R150). -/
theorem definedGroup_cases (number : Nat) (d : GroupDef) (s : State) :
    (∃ g ∈ s.groups, g.num = number ∧ definedGroup number d s = { g with gdef := d }) ∨
      definedGroup number d s = ⟨number, d, if s.tr.st = .parked then s.armSource else .fallback, false, none⟩ := by
  unfold definedGroup
  cases h : findGroup s.groups number with
  | none => exact .inr rfl
  | some g => exact .inl ⟨g, List.mem_of_find?_eq_some h, by simpa using List.find?_some h, rfl⟩

@[simp] theorem definedGroup_num (number : Nat) (d : GroupDef) (s : State) : (definedGroup number d s).num = number := by
  obtain ⟨g, -, hn, e⟩ | e := definedGroup_cases number d s <;> rw [e]
  exact hn

@[simp] theorem definedGroup_gdef (number : Nat) (d : GroupDef) (s : State) : (definedGroup number d s).gdef = d := by
  obtain ⟨g, -, -, e⟩ | e := definedGroup_cases number d s <;> rw [e]

theorem definedGroup_source {number : Nat} {d : GroupDef} {s : State} :
    (∃ x ∈ s.groups, (definedGroup number d s).source = x.source) ∨ (definedGroup number d s).source = .fallback ∨
      (s.tr.st ≠ .idle ∧ ∃ r, (definedGroup number d s).source = .rig r ∧ (s.tracker r).st ≠ .excluded) := by
  obtain ⟨g, hg, -, e⟩ | e := definedGroup_cases number d s <;> rw [e]
  · exact .inl ⟨g, hg, rfl⟩
  · dsimp only
    split
    · rename_i parked
      rcases s.armSource_cases with h | ⟨r, h, ok⟩
      · exact .inr (.inl h)
      · exact .inr (.inr ⟨by simp [parked], r, h, ok⟩)
    · exact .inr (.inl rfl)

theorem defineGroup_groupsMove {s : State} {number : Nat} {d : GroupDef}
    (range : (decide (1 ≤ number ∧ number ≤ 8) && d.inRange) = true)
    (apart : (s.groups.any fun g => !(g.num == number) && g.gdef.overlaps d) = false) :
    GroupsMove s (insertGroup (definedGroup number d s) s.groups) := by
  simp only [Bool.and_eq_true, decide_eq_true_eq, GroupDef.inRange] at range
  refine ⟨fun h => ⟨insertGroup_ne_nil _ _, fun g hg => ?_, fun g hg => ?_, insertGroup_apart h.apart fun x hx hn => ?_,
    fun g hg hu => ?_⟩, fun g hg => ?_⟩
  · rcases mem_insertGroup hg with rfl | hg
    · rw [definedGroup_num]; exact range.1
    · exact h.number g hg
  · rcases mem_insertGroup hg with rfl | hg
    · rw [definedGroup_gdef]; exact range.2
    · exact h.range g hg
  · rw [definedGroup_num] at hn
    rw [definedGroup_gdef, ← GroupDef.overlaps_eq_false]
    simpa [hn] using List.any_eq_false.1 apart x hx
  · rcases mem_insertGroup hg with rfl | hg
    · obtain ⟨x, hx, -, e⟩ | e := definedGroup_cases number d s <;> rw [e] at hu ⊢
      · exact h.mark x hx hu
      · cases hu
    · exact h.mark g hg hu
  · rcases mem_insertGroup hg with rfl | hg
    · rcases definedGroup_source (number := number) (d := d) (s := s) with h | h | ⟨st, r, e, ok⟩
      · exact .inl h
      · exact .inr (.inl h)
      · exact .inr (.inr (.inr ⟨st, r, e, fun x => absurd x ok⟩))
    · exact .inl ⟨g, hg, rfl⟩

theorem removeGroup_groupsMove {s : State} {number : Nat} (more : 1 < s.groups.length) :
    GroupsMove s (s.groups.filter fun g => !(g.num == number)) where
  safe h := by
    refine ⟨fun none => ?_, fun g hg => h.number g (List.mem_filter.1 hg).1, fun g hg => h.range g (List.mem_filter.1 hg).1,
      h.apart.sublist List.filter_sublist, fun g hg => h.mark g (List.mem_filter.1 hg).1⟩
    match hgs : s.groups, more, none, h.apart with
    | x :: y :: gs, _, none, apart =>
      have all := List.filter_eq_nil_iff.1 none
      have hx := all x (.head _)
      have hy := all y (.tail _ (.head _))
      have := ((List.pairwise_cons.1 apart).1 y (.head _)).1
      simp only [Bool.not_eq_true', beq_eq_false_iff_ne, ne_eq, not_not] at hx hy
      omega
  sources g hg := .inl ⟨g, (List.mem_filter.1 hg).1, rfl⟩

/-! ## The works -/

namespace Kept

variable {P : State → Prop} {s : State}

theorem besides (k : Kept P) {t : State} (p : P s) (h : Aside s t) : P t := k.aside h p

theorem markUnstored (k : Kept P) (p : P s) : P (markUnstored s) := k.aside rfl p

theorem edited (k : Kept P) (e : Edit) {l : List SegmentEntry} (p : P { s with setList := l }) : P (edited e l s) :=
  k.editReport e (k.markUnstored p)

theorem setEntryWork (k : Kept P) {index : Nat} {f : EntryFields}
    (edit : ∀ l, s.Stopped → (SetListSafe s.setList → SetListSafe l) → P { s with setList := l }) (p : P s) :
    P (setEntryWork index f s).1 := by
  unfold Machine.setEntryWork
  dsimp only
  split
  · exact p
  · rename_i busy
    have stopped := (State.editBusy_eq_false.1 (Bool.eq_false_of_not_eq_true busy)).1
    split
    · exact p
    · split
      · exact p
      · rename_i room
        split
        · exact p
        · rename_i e entry
          split
          · exact p
          · rename_i elsewhere
            have fresh := Bool.eq_false_of_not_eq_true elsewhere
            split
            · rename_i last
              exact k.edited _ (edit _ stopped fun h => h.append (valid_of_checkEntry entry)
                (fun full => room ⟨last, full⟩) (last ▸ fresh))
            · exact k.edited _ (edit _ stopped fun h => h.set (valid_of_checkEntry entry) fresh)

theorem dropEntryWork (k : Kept P) {index : Nat}
    (edit : ∀ l, s.Stopped → (SetListSafe s.setList → SetListSafe l) → P { s with setList := l }) (p : P s) :
    P (dropEntryWork index s).1 := by
  unfold Machine.dropEntryWork
  split
  · exact p
  · rename_i busy
    split
    · exact p
    · exact k.edited _ (edit _ (State.editBusy_eq_false.1 (Bool.eq_false_of_not_eq_true busy)).1 (·.eraseIdx index))

theorem clearSetWork (k : Kept P)
    (edit : ∀ l, s.Stopped → (SetListSafe s.setList → SetListSafe l) → P { s with setList := l }) (p : P s) :
    P (clearSetWork s).1 := by
  unfold Machine.clearSetWork
  split
  · exact p
  · rename_i busy
    split
    · exact p
    · exact k.edited _ (edit _ (State.editBusy_eq_false.1 (Bool.eq_false_of_not_eq_true busy)).1 fun _ => .nil)

theorem recallShowWork (k : Kept P)
    (copied : ∀ c : Contents, c.ok = true → s.tr.st = .idle →
      P { s with setList := c.setList, groups := c.groups.map recalledGroup }) (p : P s) : P (recallShowWork s).1 := by
  unfold Machine.recallShowWork
  split
  · exact p
  · rename_i idle
    split
    · exact p
    · split
      · exact k.aside (s := s) rfl p
      · rename_i c copy
        unfold recallContents
        dsimp only
        have recalled := copied c (StoredCopy.contents_ok copy) (not_not.1 idle)
        have counted (n : Nat) : P { s with
            setList := c.setList, groups := c.groups.map recalledGroup, tr := { s.tr with cueCount := n } } :=
          k.tr (s := { s with setList := c.setList, groups := c.groups.map recalledGroup })
            (t := { s.tr with cueCount := n }) (.beside rfl rfl rfl) recalled
        exact k.either (k.dropAllLinks (k.besides (counted _) rfl)) (k.besides (counted _) rfl)

theorem takeWork (k : Kept P) (rig : Source) (named : List Nat) (p : P s) : P (takeWork rig named s).1 := by
  unfold Machine.takeWork
  split
  · exact p
  · rename_i r _
    split
    · exact p
    · split
      · exact p
      · split
        · exact p
        · rename_i idle
          split
          · exact p
          · split
            · rename_i rolling
              unfold takeRolling
              split
              · exact p
              · rename_i service
                split
                · exact p
                · split
                  · exact p
                  · rename_i ready
                    simp only [Bool.not_eq_true', Bool.not_eq_false, List.isEmpty_iff] at service
                    refine k.opened (fun _ => Nat.le_refl 4) ⟨rolling, ?_, .inr ⟨r, rfl, not_not.1 ready⟩⟩ p
                    simp [service]
            · unfold takeStopped
              split
              · exact p
              · rename_i ok
                simp only [Bool.or_eq_true, not_or, State.isExcluded, beq_iff_eq] at ok
                refine k.writeGroups (place_groupsMove (fun g => named.contains g.num && !(g.source == .rig r)) (.inr
                  ⟨idle, r, rfl, fun x => absurd x ok.1⟩)) p

theorem excludeWork (k : Kept P) (rig : Source) (p : P s) : P (excludeWork rig s).1 := by
  unfold Machine.excludeWork
  split
  · exact p
  · rename_i r _
    split
    · exact p
    · rename_i free
      rw [Bool.or_eq_true, not_or, Bool.not_eq_true, Bool.not_eq_true] at free
      split
      · exact p
      · exact k.raiseRigState r false (k.setRigCue r none (k.exclude free.1 free.2 p))

theorem admitWork (k : Kept P) (rig : Source) (p : P s) : P (admitWork rig s).1 := by
  unfold Machine.admitWork
  split
  · exact p
  · split
    · exact k.raiseRigState _ false (k.still (.admitted _ _) p)
    · exact p

theorem setGroupWork (k : Kept P) (number : Nat) (d : Option GroupDef) (p : P s) : P (setGroupWork number d s).1 := by
  unfold Machine.setGroupWork
  split
  · exact p
  · split
    · rename_i d
      unfold defineGroup
      split
      · exact p
      · rename_i range
        split
        · exact p
        · rename_i apart
          exact k.markUnstored (k.writeGroups (defineGroup_groupsMove (by rwa [Bool.not_eq_true', Bool.not_eq_false] at range)
            (Bool.eq_false_of_not_eq_true apart)) p)
    · unfold removeGroup
      split
      · exact p
      · split
        · exact p
        · split
          · exact p
          · exact k.markUnstored (k.writeGroups (removeGroup_groupsMove (by omega)) p)

theorem takeSetting (k : Kept P) (x : Settings) (r : Result) (p : P s) : P (takeSetting x r s).1 := by
  unfold Machine.takeSetting
  split
  · exact p
  · exact k.aside (s := s) rfl p

theorem setRateWork (k : Kept P) (v : Nat) (p : P s) : P (setRateWork v s).1 := by
  unfold Machine.setRateWork
  split
  · exact p
  · split
    · exact p
    · rename_i r _
      split
      · exact p
      · have counted : P { s with tr := { s.tr with cueCount := 0 } } := k.tr (.beside rfl rfl rfl) p
        exact k.markUnstored (k.dropAllLinks (k.aside (s := { s with tr := { s.tr with cueCount := 0 } })
          (t := { s with settings := { s.settings with rate := r }, tr := { s.tr with cueCount := 0 } }) rfl counted))

theorem setPreferenceWork (k : Kept P) (rigs : List Source) (p : P s) : P (setPreferenceWork rigs s).1 := by
  unfold Machine.setPreferenceWork
  split
  · exact p
  · split
    · exact p
    · split
      · exact p
      · split
        · exact p
        · exact k.aside (s := s) rfl p

/-- A Command's work keeps what the primitive writes keep, when its edit, its recall and a RESTART do. -/
theorem command (k : Kept P) {w : State → State × Result} (h : CommandWork w)
    (edit : ∀ l, s.Stopped → (SetListSafe s.setList → SetListSafe l) → P { s with setList := l })
    (copied : ∀ c : Contents, c.ok = true → s.tr.st = .idle →
      P { s with setList := c.setList, groups := c.groups.map recalledGroup })
    (restart : w = restartWork → P (restartWork s).1) (p : P s) : P (w s).1 := by
  cases h with
  | setEntry index f => exact k.setEntryWork edit p
  | dropEntry index => exact k.dropEntryWork edit p
  | clearSet => exact k.clearSetWork edit p
  | storeShow => unfold storeShowWork; split; exacts [p, k.aside (s := s) rfl p]
  | recallShow => exact k.recallShowWork copied p
  | arm => exact k.armWork p
  | disarm => exact k.disarmWork p
  | go => exact k.goWork .desk p
  | halt => exact k.haltWork p
  | locate index offset => exact k.locateWork index offset p
  | release => exact k.releaseWork .desk p
  | restart => exact restart rfl
  | take rig named => exact k.takeWork rig named p
  | exclude rig => exact k.excludeWork rig p
  | admitRig rig => exact k.admitWork rig p
  | setGroup number d => exact k.setGroupWork number d p
  | setRate v => exact k.setRateWork v p
  | setLead v => unfold setLeadWork; split; exacts [p, k.takeSetting _ _ p]
  | setDebounce v => exact k.takeSetting _ _ (k.tr (.beside rfl rfl rfl) p)
  | setTriggers v => exact k.takeSetting _ _ p
  | setVerify v => exact k.takeSetting _ _ p
  | setSlipWindow v => exact k.takeSetting _ _ p
  | setBeatInterval v => exact k.takeSetting _ _ p
  | setThreshold v =>
    unfold setThresholdWork
    split
    · exact p
    · split
      · exact p
      · exact k.takeSetting _ _ (k.withdrawn _ p)
  | setRecover v => exact k.takeSetting _ _ (k.either p (k.withdrawn _ p))
  | setBlend v => exact k.takeSetting _ _ p
  | setSettle v => exact k.takeSetting _ _ p
  | setPreference rigs => exact k.setPreferenceWork rigs p

end Kept

/-! ## Steps -/

/-- What a predicate that every step keeps is kept by besides the primitive writes. -/
structure KeptEverywhere (P : State → Prop) : Prop extends Kept P where
  retaps : ∀ r, Retaps P r
  edit : ∀ {s : State} {l : List SegmentEntry}, s.Stopped → (SetListSafe s.setList → SetListSafe l) → P s →
    P { s with setList := l }
  copied : ∀ {s : State} {c : Contents}, c.ok = true → s.tr.st = .idle → P s →
    P { s with setList := c.setList, groups := c.groups.map recalledGroup }
  restart : ∀ {s : State}, P s → P (restartBlocks s)
  cold : ∀ {s : State} {c : Contents} (cond : StoreCond) (unstored : Bool), c.ok = true → P s →
    P (coldState c cond unstored s)
  off : ∀ {s : State} (n : Nat), P s → P (powerRemovedWork n s)
  desk : ∀ {s : State} {d : Desk}, (s.desk.Safe → d.Safe) → P s → P { s with desk := d }
  pending : ∀ {s : State} (cs : List Instr), P s → P { s with pending := cs }

/-- A Reply joins the queue before or after a Notice is raised. -/
theorem pushReply_raise (r : Reply) (b : NoticeBody) (s : State) : pushReply r (raise b s) = raise b (pushReply r s) := by
  have offered (d : Desk) (n : HouseBlock) : { d.offer b n with replies := (d.offer b n).replies ++ [r] } =
      ({ d with replies := d.replies ++ [r] } : Desk).offer b n := by
    unfold Desk.offer
    dsimp only
    split <;> rfl
  simp only [pushReply, raise, offered]

/-- RESTART with its Reply already in the queue that it has emptied (R180). -/
theorem pushReply_restartWork (r : Reply) (s : State) : pushReply r (restartWork s).1 =
    Rig.all.foldl restartReport (restartBlocks (abandonStore
      { s with desk := { s.desk.restart with replies := [r] } })) := by
  have report (u : State) (rig : Rig) : pushReply r (restartReport u rig) = restartReport (pushReply r u) rig := by
    unfold restartReport
    by_cases h : (u.port rig).link = .locked ∧ (u.tracker rig).st = .offline
    · rw [if_pos h, if_pos (show ((pushReply r u).port rig).link = .locked ∧ ((pushReply r u).tracker rig).st = .offline
        from h)]
      exact pushReply_raise r _ _
    · rw [if_neg h, if_neg (show ¬(((pushReply r u).port rig).link = .locked ∧
        ((pushReply r u).tracker rig).st = .offline) from h)]
  have abandon (u : State) : pushReply r (abandonStore u) = abandonStore (pushReply r u) := by
    obtain ⟨_, _, _, _, cond, _⟩ := u
    cases cond with
    | valid => rfl
    | invalid => rfl
    | writing c b => exact pushReply_raise r _ _
  have blocks (u : State) : pushReply r (restartBlocks u) = restartBlocks (pushReply r u) := rfl
  simp only [restartWork, Rig.all, List.foldl, report, blocks, abandon]
  rfl

namespace Kept

variable {P : State → Prop} {s : State}

theorem abandonStore (k : Kept P) (p : P s) : P (abandonStore s) := by
  unfold Machine.abandonStore
  split
  · exact k.raise _ (k.aside (s := s) rfl p)
  · exact p

theorem restartReports (k : Kept P) (p : P s) : P (Rig.all.foldl restartReport s) := by
  refine k.foldl (fun s r p => ?_) _ p
  unfold restartReport
  exact k.either (k.raiseRigState r false (k.still (.locked _) p)) p

end Kept

/-- A Command's work finds the reply queue empty and leaves it so. -/
theorem CommandWork.replies {w : State → State × Result} (h : CommandWork w) {s : State} (empty : s.desk.replies = []) :
    (w s).1.desk.replies = [] := by
  have k : Kept fun s => s.desk.replies = [] := {
    raise := fun b p => (raise_replies b _).trans p
    aside := fun h p => by rw [h]; exact p
    tracker := fun _ _ p => p
    exclude := fun _ _ p => p
    port := fun _ p => p
    tr := fun _ p => p
    groups := fun _ p => p
    takes := fun _ p => p
    closed := fun _ p => p
    withdrawn := fun _ p => p
    requested := fun _ _ p => p
    opened := fun _ _ p => (ArbiterWork.openService _ _).replies.trans p
    stopRun := fun {s st house} c _ _ _ p => by
      have cued : ∀ u : State, u.desk.replies = [] → (clearAllCued u).desk.replies = [] := fun u hu => by
        refine List.foldlRecOn (motive := fun u : State => u.desk.replies = []) _ clearCued hu fun u hu r _ => ?_
        unfold clearCued
        split
        · exact (raise_replies _ _).trans hu
        · exact hu
      exact (ArbiterWork.closeAll c _).replies.trans (cued (s.onTr (·.stop st house)) p)
    idle := fun _ p => p }
  refine k.command h (fun _ _ _ => empty) (fun _ _ _ => empty) (fun _ => ?_) empty
  exact k.restartReports (s := restartBlocks (abandonStore { s with desk := s.desk.restart }))
    (k.abandonStore (s := { s with desk := s.desk.restart }) rfl)

namespace KeptEverywhere

variable {P : State → Prop} {s t : State}

theorem pushReply (k : KeptEverywhere P) {r : Reply} (room : s.desk.replies.length < 16) (p : P s) :
    P (pushReply r s) :=
  k.desk (fun h => ⟨h.notices, by simp [Config.maxReplies]; omega, fun _ => by simp⟩) p

theorem handled (k : KeptEverywhere P) (h : Handled s t) (p : P s) : P t := by
  cases h with
  | same => exact p
  | reply r n room => exact k.pushReply (s := { s with freeCount := n }) room (k.aside (s := s) rfl p)
  | @work w h empty r =>
    by_cases restart : w = restartWork
    · rw [restart, pushReply_restartWork]
      exact k.restartReports (k.restart (k.abandonStore (k.desk (d := { s.desk.restart with replies := [r] })
        (fun _ => ⟨Nat.zero_le _, by simp [Config.maxReplies], by simp⟩) p)))
    · refine k.pushReply (by simp [h.replies empty]) (k.command h (fun _ stopped safe => k.edit stopped safe p)
        (fun _ ok idle => k.copied ok idle p) (fun e => absurd e restart) p)

theorem received (k : KeptEverywhere P) (h : Received s t) (p : P s) : P t := by
  induction h with
  | same => exact p
  | receiver rx _ ih => exact k.desk (fun h => { h with }) ih
  | handled _ h ih => exact k.handled h ih

theorem coldStart (k : KeptEverywhere P) (p : P s) : P (coldStartWork s) := by
  unfold coldStartWork
  split
  · exact k.cold _ _ (StoredCopy.contents_ok ‹_›) p
  · exact k.raise _ (k.cold _ _ (by decide) p)

theorem effect (k : KeptEverywhere P) {i : Instr} (h : Effect s i t) (p : P s) : P t := by
  cases h with
  | cold => exact k.coldStart p
  | powerRemoved n => exact k.off n p
  | received _ h => exact k.received h p
  | event _ h => exact k.event h (fun r bytes _ => k.rigMessage (k.retaps r) bytes p) p
  | transmitEnd =>
    refine k.desk (fun h => ?_) p
    unfold Desk.frameEnd
    split
    · exact h
    · exact ⟨h.notices, by have := h.replies; simp; omega, by simp⟩
    · exact ⟨h.notices, h.replies, by simp⟩

theorem exec (k : KeptEverywhere P) {i : Instr} (p : P s) (h : exec i s = .next t) : P t := by
  obtain ⟨u, effect, rfl | rfl⟩ := exec_effect h
  · exact k.desk (·.kick) (k.effect effect p)
  · exact k.effect effect p

/-- What every primitive write keeps, every step keeps. -/
theorem step (k : KeptEverywhere P) (p : P s) (h : step s = .next t) : P t := by
  unfold Machine.step at h
  split at h
  · cases h; exact p
  · exact k.exec (k.pending _ p) h

end KeptEverywhere

end Sys2Proof.Machine
end

section
/-! SUPPORT. What opening a take does to groups, take table and in-service set (R131, R132), and what closing all takes
leaves (R145). -/

namespace Sys2Proof.Machine

/-! ## The take table -/

@[simp] theorem slipClear_sw (r : Rig) (s : State) : (slipClear r s).sw = s.sw := by
  unfold slipClear; split <;> rfl

@[simp] theorem lossReport_sw (before : List Group) (s : State) (r : Rig) : (lossReport before s r).sw = s.sw := by
  have kept : (if (carries before r && !carries s.groups r) = true then slipClear r s else s).sw = s.sw := by
    split
    · exact slipClear_sw r s
    · rfl
  unfold lossReport
  dsimp only
  split
  · exact kept
  · exact kept

@[simp] theorem lossReports_sw (before : List Group) (s : State) : (lossReports before s).sw = s.sw := by
  simp [lossReports, Rig.all]

@[simp] theorem lossReports_groups (before : List Group) (s : State) : (lossReports before s).groups = s.groups := by
  simp [lossReports, Rig.all]

/-- The loss reports withdraw requests, and leave the in-service set (R112). -/
theorem lossReports_arb (before : List Group) (s : State) :
    (lossReports before s).arb.inService = s.arb.inService ∧ (lossReports before s).arb.requests ⊆ s.arb.requests := by
  simp only [lossReports, Rig.all, List.foldl, lossReport_arb, lossReport_groups, true_and]
  exact fun q hq => (List.mem_filter.1 (List.mem_filter.1 (List.mem_filter.1 hq).1).1).1

@[simp] theorem writeGroups_sw (f : List Group → List Group) (s : State) : (writeGroups f s).sw = s.sw := by
  simp [writeGroups]

theorem mem_insertTake {t x : Take} {ts : List Take} : x ∈ insertTake t ts ↔ x = t ∨ x ∈ ts := by
  induction ts with
  | nil => simp [insertTake]
  | cons u us ih =>
    unfold insertTake
    split
    · simp
    · simp [ih, or_left_comm]

/-- A take put into the table under a number that no open take holds keeps the numbers rising (R128). -/
theorem insertTake_order {t : Take} {ts : List Take} (order : ts.Pairwise fun x y => x.num < y.num)
    (fresh : ∀ x ∈ ts, x.num ≠ t.num) : (insertTake t ts).Pairwise fun x y => x.num < y.num := by
  induction ts with
  | nil => exact List.pairwise_singleton _ _
  | cons u us ih =>
    obtain ⟨first, rest⟩ := List.pairwise_cons.1 order
    have hu := fresh u (.head _)
    unfold insertTake
    split
    · refine List.pairwise_cons.2 ⟨fun x hx => ?_, order⟩
      rcases List.mem_cons.1 hx with rfl | hx
      · omega
      · have := first x hx; omega
    · refine List.pairwise_cons.2 ⟨fun x hx => ?_, ih rest fun x hx => fresh x (.tail _ hx)⟩
      rcases mem_insertTake.1 hx with rfl | hx
      · omega
      · exact first x hx

theorem nodup_nums {ts : List Take} (order : ts.Pairwise fun x y => x.num < y.num) : (ts.map (·.num)).Nodup :=
  List.Pairwise.map _ (fun _ _ h => Nat.ne_of_lt h) order

/-! ## Supersedes (R132) -/

/-- What the supersedes of an open order leave: sources from the groups and the takes' targets, numbers, engines, sets. -/
structure Superseded (s u : State) : Prop where
  groups : GroupsMove s u.groups
  inService : u.arb.inService = s.arb.inService
  requests : u.arb.requests ⊆ s.arb.requests
  nums : u.sw.takes.map (·.num) = s.sw.takes.map (·.num)
  targets : ∀ t ∈ u.sw.takes, ∃ x ∈ s.sw.takes, t.target = x.target
  engines : (∀ t ∈ s.sw.takes, t.engine ≠ none → t.st = .blending) → ∀ t ∈ u.sw.takes, t.engine ≠ none → t.st = .blending

theorem Take.endRampIfDue_cases (t : Take) : t.endRampIfDue = t ∨ t.endRampIfDue = t.settleNow := by
  unfold Take.endRampIfDue
  split
  · exact .inr rfl
  · exact .inl rfl

theorem Take.endRampIfDue_num (t : Take) : t.endRampIfDue.num = t.num := by
  rcases t.endRampIfDue_cases with e | e <;> rw [e]; rfl

theorem Take.endRampIfDue_target (t : Take) : t.endRampIfDue.target = t.target := by
  rcases t.endRampIfDue_cases with e | e <;> rw [e]; rfl

theorem Take.afterSupersede_cases (t : Take) (kept : List Member) :
    t.afterSupersede kept = { t with members := kept } ∨
      t.afterSupersede kept = ({ t with members := kept } : Take).settleNow := by
  unfold Take.afterSupersede
  dsimp only
  split
  · exact .inl rfl
  · split
    · exact .inr rfl
    · exact .inl rfl

/-- What a supersede leaves of an old take's record: number, target, and an engine with BLENDING alone. -/
theorem Take.afterSupersede_kept (t : Take) (kept : List Member) :
    (t.endRampIfDue.afterSupersede kept).num = t.num ∧ (t.endRampIfDue.afterSupersede kept).target = t.target ∧
      ((t.engine ≠ none → t.st = .blending) → (t.endRampIfDue.afterSupersede kept).engine ≠ none →
        (t.endRampIfDue.afterSupersede kept).st = .blending) := by
  rcases t.endRampIfDue_cases with e | e <;> rcases t.endRampIfDue.afterSupersede_cases kept with k | k <;> rw [k, e]
  · exact ⟨rfl, rfl, id⟩
  all_goals exact ⟨rfl, rfl, fun _ h => absurd rfl h⟩

theorem supersedeTake_superseded {s u : State} (h : Superseded s u) {old : Take} (ho : old ∈ s.sw.takes)
    (names : List Nat) (n : Nat) : Superseded s (supersedeTake names n u old) := by
  unfold supersedeTake
  dsimp only
  split
  · exact h
  · obtain ⟨num, target, engine⟩ :=
      old.afterSupersede_kept (old.endRampIfDue.members.filter fun m => !names.contains m.group)
    have completed (ms : List Member) : GroupsMove s (completeGroups old.endRampIfDue ms u.groups) := by
      refine ⟨fun k => (h.groups.safe k).map (fun g => by split <;> exact ⟨rfl, rfl⟩) fun g hg hu => ?_, fun g hg => ?_⟩
      · split at hu
        · cases hu
        · exact (h.groups.safe k).mark g hg hu
      · obtain ⟨x, hx, rfl⟩ := List.mem_map.1 hg
        split
        · exact .inr (.inr (.inl ⟨old, ho, old.endRampIfDue_target⟩))
        · exact h.groups.sources x hx
    have written (ms : List Member) (after : Take) (num : after.num = old.num) (target : after.target = old.target)
        (engine : (old.engine ≠ none → old.st = .blending) → after.engine ≠ none → after.st = .blending) :
        Superseded s (updateTake old.endRampIfDue.num (fun _ => after)
          { u with groups := completeGroups old.endRampIfDue ms u.groups }) := by
      refine ⟨completed ms, h.inService, h.requests, ?_, fun t ht => ?_, fun ok t ht => ?_⟩
      · rw [← h.nums]
        simp only [updateTake, List.map_map]
        refine List.map_congr_left fun t _ => ?_
        simp only [Function.comp_apply]
        split
        · rename_i e; rw [num, e, old.endRampIfDue_num]
        · rfl
      · obtain ⟨x, hx, rfl⟩ := List.mem_map.1 ht
        split
        · exact ⟨old, ho, target⟩
        · exact h.targets x hx
      · obtain ⟨x, hx, rfl⟩ := List.mem_map.1 ht
        split
        · exact engine (ok old ho)
        · exact h.engines ok x hx
    have done := written ((old.endRampIfDue.members.filter fun m => names.contains m.group).filter
      fun m => !(m.stage == .outgoing)) _ num target engine
    split
    · exact done
    · exact { done with }

theorem supersedes_superseded (s : State) (names : List Nat) (n : Nat) (touched : List Take)
    (h : ∀ t ∈ touched, t ∈ s.sw.takes) {u : State} (k : Superseded s u) :
    Superseded s (touched.foldl (supersedeTake names n) u) := by
  induction touched generalizing u with
  | nil => exact k
  | cons t ts ih => exact ih (fun x hx => h x (.tail _ hx)) (supersedeTake_superseded k (h t (.head _)) names n)

/-! ## The opening (R131) -/

/-- The state of an opening after its supersedes and their reports, before the new take joins the table. -/
def beforeJoin (o : OpenOrder) (s : State) : State :=
  lossReports s.groups (((s.sw.takes.filter fun t => t.members.any fun m => (o.members.map (·.1)).contains m.group).foldl
    (supersedeTake (o.members.map (·.1)) (takeNumber s.sw))
      { s with sw := { s.sw with next := (takeNumber s.sw + 1) % 256 } }))

/-- The record of the take that an open order opens (R128, R129, R131). -/
def openedTake (o : OpenOrder) (s : State) : Take :=
  { num := takeNumber s.sw, levels := [o.level], cause := o.cause, rig := o.rig, target := o.target
    members := (o.members.map fun x => (x.1, joinSource s.sw.takes x)).map (newMember (beforeJoin o s) o.target)
    dropped := [], blendLength := (beforeJoin o s).settings.blend * 32, settlePeriod := (beforeJoin o s).settings.settle
    st := .waiting, startFrame := firstFrame ((beforeJoin o s).block + 1), wait := 0, engine := none, ramp := 0
    settleCount := 0, due := none }

/-- The new take joins the table, TAKE_BEGUN is raised, and the takes that were emptied are closed (R131, R132). -/
theorem openTake_eq (o : OpenOrder) (s : State) : openTake o s =
    ((beforeJoin o s).sw.takes.filter fun t => t.members.isEmpty).foldl (closeSuperseded (takeNumber s.sw))
      (raise (.takeBegun (takeNumber s.sw) o.cause [o.level] o.target (openedTake o s).members
          ((s.sw.takes.filter fun t => t.members.any fun m => (o.members.map (·.1)).contains m.group).map (·.num)) false [])
        { beforeJoin o s with
          sw := { (beforeJoin o s).sw with takes := insertTake (openedTake o s) (beforeJoin o s).sw.takes } }) := rfl

theorem beforeJoin_superseded (o : OpenOrder) (s : State) : Superseded s (beforeJoin o s) := by
  have start : Superseded s { s with sw := { s.sw with next := (takeNumber s.sw + 1) % 256 } } :=
    ⟨⟨id, fun g hg => .inl ⟨g, hg, rfl⟩⟩, rfl, fun _ h => h, rfl, fun t ht => ⟨t, ht, rfl⟩, id⟩
  have done := supersedes_superseded s (o.members.map (·.1)) (takeNumber s.sw)
    (s.sw.takes.filter fun t => t.members.any fun m => (o.members.map (·.1)).contains m.group)
    (fun t ht => (List.mem_filter.1 ht).1) start
  unfold beforeJoin
  generalize List.foldl _ _ _ = u at done ⊢
  obtain ⟨inService, requests⟩ := lossReports_arb s.groups u
  exact ⟨by rw [lossReports_groups]; exact done.groups, inService.trans done.inService,
    List.Subset.trans requests done.requests, by rw [lossReports_sw]; exact done.nums,
    by rw [lossReports_sw]; exact done.targets, by rw [lossReports_sw]; exact done.engines⟩

/-- The closes of superseded takes leave the groups, and of the targets none but one there was. -/
theorem closeSuperseded_frame (n : Nat) (s : State) (t : Take) : (closeSuperseded n s t).groups = s.groups ∧
    ∀ x ∈ (closeSuperseded n s t).sw.takes, ∃ y ∈ s.sw.takes, x.target = y.target := by
  refine ⟨rfl, fun x hx => ?_⟩
  obtain ⟨y, hy, rfl⟩ := List.mem_map.1 hx
  exact ⟨y, (List.mem_filter.1 hy).1, by split <;> rfl⟩

theorem closeSupersededs_frame (n : Nat) (ts : List Take) (s : State) :
    (ts.foldl (closeSuperseded n) s).groups = s.groups ∧
      ∀ x ∈ (ts.foldl (closeSuperseded n) s).sw.takes, ∃ y ∈ s.sw.takes, x.target = y.target := by
  induction ts generalizing s with
  | nil => exact ⟨rfl, fun x hx => ⟨x, hx, rfl⟩⟩
  | cons t ts ih =>
    obtain ⟨groups, targets⟩ := ih (closeSuperseded n s t)
    obtain ⟨groups', targets'⟩ := closeSuperseded_frame n s t
    refine ⟨groups.trans groups', fun x hx => ?_⟩
    obtain ⟨y, hy, e⟩ := targets x hx
    obtain ⟨z, hz, e'⟩ := targets' y hy
    exact ⟨z, hz, e.trans e'⟩

/-- What an opening writes to the group table, and the targets that it leaves. -/
theorem openService_frame (o : OpenOrder) (s : State) : GroupsMove s (openService o s).groups ∧
    ∀ t ∈ (openService o s).sw.takes, t.target = o.target ∨ ∃ x ∈ s.sw.takes, t.target = x.target := by
  have before := beforeJoin_superseded o s
  have closes := closeSupersededs_frame (takeNumber s.sw) ((beforeJoin o s).sw.takes.filter fun t => t.members.isEmpty)
    (raise (.takeBegun (takeNumber s.sw) o.cause [o.level] o.target (openedTake o s).members
          ((s.sw.takes.filter fun t => t.members.any fun m => (o.members.map (·.1)).contains m.group).map (·.num)) false [])
        { beforeJoin o s with
          sw := { (beforeJoin o s).sw with takes := insertTake (openedTake o s) (beforeJoin o s).sw.takes } })
  unfold openService
  dsimp only
  rw [openTake_eq]
  refine ⟨closes.1 ▸ before.groups, fun t ht => ?_⟩
  obtain ⟨y, hy, e⟩ := closes.2 t ht
  rcases mem_insertTake.1 hy with rfl | hy
  · exact .inl e
  · obtain ⟨z, hz, e'⟩ := before.targets y hy
    exact .inr ⟨z, hz, e.trans e'⟩

/-! ## Closing every take (R145) -/

theorem withdrawStale_of_not_rolling {s : State} (h : s.tr.st ≠ .rolling) : examine s = withdrawStale s := if_neg h

/-- Outside ROLLING a close opens no service, so that the table only loses the take. -/
theorem closeNamed_takes {s : State} (h : s.tr.st ≠ .rolling) (c : Close) (t : Take) :
    (closeNamed c s t).sw.takes = s.sw.takes.filter (fun x => !(x.num == t.num)) ∧ (closeNamed c s t).tr = s.tr := by
  unfold closeNamed closeReport
  dsimp only
  rw [withdrawStale_of_not_rolling (by exact h)]
  exact ⟨rfl, rfl⟩

theorem closeNameds_takes {s : State} (h : s.tr.st ≠ .rolling) (c : Close) (ts : List Take)
    (all : ∀ x ∈ s.sw.takes, x ∈ ts) : (ts.foldl (closeNamed c) s).sw.takes = [] := by
  suffices ∀ (ts : List Take) (s : State), s.tr.st ≠ .rolling →
      ∀ x ∈ (ts.foldl (closeNamed c) s).sw.takes, x ∈ s.sw.takes ∧ ∀ t ∈ ts, x.num ≠ t.num by
    refine List.eq_nil_iff_forall_not_mem.2 fun x hx => ?_
    obtain ⟨mem, out⟩ := this ts s h x hx
    exact out x (all x mem) rfl
  intro ts
  induction ts with
  | nil => exact fun s _ x hx => ⟨hx, by simp⟩
  | cons t ts ih =>
    intro s h x hx
    obtain ⟨takes, tr⟩ := closeNamed_takes h c t
    obtain ⟨mem, out⟩ := ih (closeNamed c s t) (by rw [tr]; exact h) x hx
    rw [takes, List.mem_filter] at mem
    refine ⟨mem.1, fun y hy => ?_⟩
    rcases List.mem_cons.1 hy with rfl | hy
    · simpa using mem.2
    · exact out y hy

/-- HALT and the end of a run leave no take open (R145). -/
theorem closeAll_takes {s : State} (h : s.tr.st ≠ .rolling) (c : Close) : (closeAll c s).sw.takes = [] := by
  unfold closeAll
  dsimp only
  refine closeNameds_takes ?_ c _ fun x hx => by simpa using hx
  rw [(ArbiterWork.writeGroups ?_).tr]
  · exact h
  · generalize s.sw.takes = ts
    generalize s.groups = gs
    induction ts generalizing gs with
    | nil => rfl
    | cons t ts ih => exact (ih _).trans (completeGroups_defs t _ gs)

end Sys2Proof.Machine
end

section
/-! SUPPORT. An opening keeps levels in service and open takes matched (R110, R114, R130 to R132). -/

namespace Sys2Proof.Machine

/-! ## Take numbers (R130) -/

/-- There are fewer open takes than numbers, for each owns a level of its own. -/
theorem State.ServiceSafe.takes_le {s : State} (h : s.ServiceSafe) : s.sw.takes.length ≤ 5 := by
  have owners : (s.sw.takes.map (·.num)) ⊆ s.arb.inService.map (·.2) := fun n hn => by
    obtain ⟨t, ht, rfl⟩ := List.mem_map.1 hn
    obtain ⟨x, hx, e⟩ := h.owns t ht
    exact List.mem_map.2 ⟨x, hx, e⟩
  have levels : (s.arb.inService.map (·.1)) ⊆ List.range 5 := fun n hn => by
    obtain ⟨x, hx, rfl⟩ := List.mem_map.1 hn
    exact List.mem_range.2 (Nat.lt_succ_of_le (h.levels.2 x hx))
  have few := (h.numbers.subperm owners).length_le
  have all := (h.levels.1.subperm levels).length_le
  simp only [List.length_map, List.length_range] at few all
  exact few.trans all

theorem findTake_isNone {ts : List Take} {n : Nat} : (findTake ts n).isNone = true ↔ ∀ t ∈ ts, t.num ≠ n := by
  simp [findTake]

/-- The number of a new take is one that no open take holds (R130). -/
theorem takeNumber_fresh {sw : Switch} (few : sw.takes.length < 256) : ∀ t ∈ sw.takes, t.num ≠ takeNumber sw := by
  cases found : ((List.range 256).map fun i => (sw.next + i) % 256).find? fun n => (findTake sw.takes n).isNone with
  | some n =>
    have := List.find?_some found
    rw [show takeNumber sw = n by simp [takeNumber, found]]
    exact findTake_isNone.1 this
  | none =>
    have held : List.range 256 ⊆ sw.takes.map (·.num) := fun n hn => by
      have hn := List.mem_range.1 hn
      have none := List.find?_eq_none.1 found ((sw.next + (n + 256 - sw.next % 256)) % 256)
        (List.mem_map.2 ⟨(n + 256 - sw.next % 256) % 256, List.mem_range.2 (Nat.mod_lt _ (by decide)), by simp⟩)
      rw [findTake_isNone] at none
      push Not at none
      obtain ⟨t, ht, e⟩ := none
      exact List.mem_map.2 ⟨t, ht, by rw [e]; omega⟩
    have := (List.nodup_range.subperm held).length_le
    simp only [List.length_range, List.length_map] at this
    omega

/-! ## The in-service set (R110) -/

theorem mem_insertLevel {x y : Nat × Nat} {l : List (Nat × Nat)} : y ∈ insertLevel x l ↔ y = x ∨ y ∈ l := by
  induction l with
  | nil => simp [insertLevel]
  | cons z zs ih =>
    unfold insertLevel
    split
    · simp
    · simp [ih, or_left_comm]

theorem insertLevel_nodup {x : Nat × Nat} {l : List (Nat × Nat)} (h : (l.map (·.1)).Nodup) (fresh : ∀ y ∈ l, y.1 ≠ x.1) :
    ((insertLevel x l).map (·.1)).Nodup := by
  have cons (l : List (Nat × Nat)) (h : (l.map (·.1)).Nodup) (fresh : ∀ y ∈ l, y.1 ≠ x.1) :
      ((x :: l).map (·.1)).Nodup :=
    List.nodup_cons.2 ⟨fun m => by obtain ⟨y, hy, e⟩ := List.mem_map.1 m; exact fresh y hy e, h⟩
  induction l with
  | nil => exact cons [] h fresh
  | cons z zs ih =>
    unfold insertLevel
    split
    · exact cons _ h fresh
    · obtain ⟨out, rest⟩ := List.nodup_cons.1 h
      refine List.nodup_cons.2 ⟨fun m => ?_, ih rest fun y hy => fresh y (.tail _ hy)⟩
      obtain ⟨y, hy, e⟩ := List.mem_map.1 m
      rcases mem_insertLevel.1 hy with rfl | hy
      · exact fresh z (.head _) e.symm
      · exact out (List.mem_map.2 ⟨y, hy, e⟩)

/-! ## Closing superseded takes (R131, R132) -/

/-- The state within an opening: all of `ServiceSafe` but that the new take owns a level. -/
structure Joining (n : Nat) (s : State) : Prop where
  joined : ∃ t ∈ s.sw.takes, t.num = n
  owned : ∀ x ∈ s.arb.inService, ∃ t ∈ s.sw.takes, t.num = x.2
  owns : ∀ t ∈ s.sw.takes, t.num ≠ n → ∃ x ∈ s.arb.inService, x.2 = t.num
  order : s.sw.takes.Pairwise fun t u => t.num < u.num
  engines : ∀ t ∈ s.sw.takes, t.engine ≠ none → t.st = .blending

/-- What becomes of a take's record when another is closed as superseded by n. -/
def passLevels (n : Nat) (t u : Take) : Take := if u.num = n then { u with levels := levelUnion u.levels t.levels } else u

@[simp] theorem passLevels_num (n : Nat) (t u : Take) : (passLevels n t u).num = u.num := by
  unfold passLevels; split <;> rfl

@[simp] theorem passLevels_engine (n : Nat) (t u : Take) : (passLevels n t u).engine = u.engine := by
  unfold passLevels; split <;> rfl

@[simp] theorem passLevels_st (n : Nat) (t u : Take) : (passLevels n t u).st = u.st := by
  unfold passLevels; split <;> rfl

theorem closeSuperseded_takes (n : Nat) (s : State) (t : Take) : (closeSuperseded n s t).sw.takes =
    (s.sw.takes.filter fun x => !(x.num == t.num)).map (passLevels n t) := rfl

theorem closeSuperseded_arb (n : Nat) (s : State) (t : Take) : (closeSuperseded n s t).arb =
    { s.arb with inService := s.arb.inService.map fun x => if x.2 = t.num then (x.1, n) else x } := rfl

theorem closeSuperseded_joining {n : Nat} {s : State} {t : Take} (h : Joining n s) (other : t.num ≠ n) :
    Joining n (closeSuperseded n s t) := by
  have mem {u : Take} (hu : u ∈ s.sw.takes) (ne : u.num ≠ t.num) :
      passLevels n t u ∈ (closeSuperseded n s t).sw.takes := by
    rw [closeSuperseded_takes]
    exact List.mem_map.2 ⟨u, List.mem_filter.2 ⟨hu, by simpa using ne⟩, rfl⟩
  refine ⟨?_, fun x hx => ?_, fun u hu ne => ?_, ?_, fun u hu => ?_⟩
  · obtain ⟨u, hu, e⟩ := h.joined
    exact ⟨_, mem hu (by rw [e]; exact Ne.symm other), by simpa using e⟩
  · rw [closeSuperseded_arb] at hx
    obtain ⟨y, hy, rfl⟩ := List.mem_map.1 hx
    split
    · obtain ⟨u, hu, e⟩ := h.joined
      exact ⟨_, mem hu (by rw [e]; exact Ne.symm other), by simpa using e⟩
    · rename_i ne
      obtain ⟨u, hu, e⟩ := h.owned y hy
      exact ⟨_, mem hu (by rw [e]; exact ne), by simpa using e⟩
  · rw [closeSuperseded_takes] at hu
    obtain ⟨v, hv, rfl⟩ := List.mem_map.1 hu
    rw [passLevels_num] at ne ⊢
    obtain ⟨hv, out⟩ := List.mem_filter.1 hv
    obtain ⟨x, hx, e⟩ := h.owns v hv ne
    refine ⟨x, List.mem_map.2 ⟨x, hx, if_neg ?_⟩, e⟩
    simpa [e] using out
  · rw [closeSuperseded_takes, List.pairwise_map]
    simpa using h.order.sublist List.filter_sublist
  · rw [closeSuperseded_takes] at hu
    obtain ⟨v, hv, rfl⟩ := List.mem_map.1 hu
    simpa using h.engines v (List.mem_filter.1 hv).1

theorem closeSupersededs_joining {n : Nat} : ∀ (ts : List Take) {s : State}, Joining n s → (∀ t ∈ ts, t.num ≠ n) →
    Joining n (ts.foldl (closeSuperseded n) s)
  | [], _, h, _ => h
  | _ :: ts, _, h, other =>
    closeSupersededs_joining ts (closeSuperseded_joining h (other _ (.head _))) fun x hx => other x (.tail _ hx)

/-- Superseded takes pass their levels on: the levels in service and the requests stay. -/
theorem closeSupersededs_levels (n : Nat) (ts : List Take) (s : State) :
    (ts.foldl (closeSuperseded n) s).arb.inService.map (·.1) = s.arb.inService.map (·.1) ∧
      (ts.foldl (closeSuperseded n) s).arb.requests = s.arb.requests := by
  induction ts generalizing s with
  | nil => exact ⟨rfl, rfl⟩
  | cons t ts ih =>
    obtain ⟨levels, requests⟩ := ih (closeSuperseded n s t)
    refine ⟨levels.trans ?_, requests⟩
    rw [closeSuperseded_arb, List.map_map]
    refine List.map_congr_left fun x _ => ?_
    simp only [Function.comp_apply]
    split <;> rfl

/-! ## The opening -/

theorem Superseded.order {s u : State} (h : Superseded s u) (order : s.sw.takes.Pairwise fun t u => t.num < u.num) :
    u.sw.takes.Pairwise fun t u => t.num < u.num := by
  rw [← List.pairwise_map (f := Take.num) (R := (· < ·)), h.nums, List.pairwise_map]
  exact order

theorem Superseded.mem_num {s u : State} (h : Superseded s u) {n : Nat} :
    (∃ t ∈ u.sw.takes, t.num = n) ↔ ∃ t ∈ s.sw.takes, t.num = n := by
  simpa using (show n ∈ u.sw.takes.map (·.num) ↔ n ∈ s.sw.takes.map (·.num) by rw [h.nums])

/-- An opening keeps levels in service and open takes matched. -/
theorem State.ServiceSafe.opened {s : State} (h : s.ServiceSafe) {o : OpenOrder} (level : o.level ≤ 4)
    (fresh : ∀ x ∈ s.arb.inService, x.1 ≠ o.level) : (openService o s).ServiceSafe := by
  have before := beforeJoin_superseded o s
  have free := takeNumber_fresh (sw := s.sw) (h.takes_le.trans_lt (by decide))
  have free' : ∀ t ∈ (beforeJoin o s).sw.takes, t.num ≠ takeNumber s.sw := fun t ht e => by
    obtain ⟨x, hx, e'⟩ := before.mem_num.1 ⟨t, ht, e⟩
    exact free x hx e'
  have joining : Joining (takeNumber s.sw) (raise (.takeBegun (takeNumber s.sw) o.cause [o.level] o.target
        (openedTake o s).members
        ((s.sw.takes.filter fun t => t.members.any fun m => (o.members.map (·.1)).contains m.group).map (·.num)) false [])
      { beforeJoin o s with
        sw := { (beforeJoin o s).sw with takes := insertTake (openedTake o s) (beforeJoin o s).sw.takes } }) := by
    refine ⟨⟨_, mem_insertTake.2 (.inl rfl), rfl⟩, fun x hx => ?_, fun t ht ne => ?_,
      insertTake_order (before.order h.order) free', fun t ht => ?_⟩
    · obtain ⟨t, ht, e⟩ := before.mem_num.2 (h.owned x (before.inService ▸ hx))
      exact ⟨t, mem_insertTake.2 (.inr ht), e⟩
    · rcases mem_insertTake.1 ht with rfl | ht
      · exact absurd rfl ne
      · obtain ⟨u, hu, e⟩ := before.mem_num.1 ⟨t, ht, rfl⟩
        obtain ⟨x, hx, ex⟩ := h.owns u hu
        exact ⟨x, before.inService.symm ▸ hx, ex.trans e⟩
    · rcases mem_insertTake.1 ht with rfl | ht
      · exact fun e => absurd rfl e
      · exact before.engines h.engines t ht
  have closed := closeSupersededs_joining ((beforeJoin o s).sw.takes.filter fun t => t.members.isEmpty) joining
    fun t ht => free' t (List.mem_filter.1 ht).1
  obtain ⟨levels, requests⟩ := closeSupersededs_levels (takeNumber s.sw)
    ((beforeJoin o s).sw.takes.filter fun t => t.members.isEmpty) (raise (.takeBegun (takeNumber s.sw) o.cause [o.level]
        o.target (openedTake o s).members
        ((s.sw.takes.filter fun t => t.members.any fun m => (o.members.map (·.1)).contains m.group).map (·.num)) false [])
      { beforeJoin o s with
        sw := { (beforeJoin o s).sw with takes := insertTake (openedTake o s) (beforeJoin o s).sw.takes } })
  unfold openService
  dsimp only
  rw [openTake_eq]
  generalize List.foldl _ _ _ = u at closed levels requests ⊢
  have levels : u.arb.inService.map (·.1) = s.arb.inService.map (·.1) :=
    levels.trans (congrArg (List.map (·.1)) before.inService)
  have known {x : Nat × Nat} (hx : x ∈ u.arb.inService) : ∃ y ∈ s.arb.inService, y.1 = x.1 :=
    List.mem_map.1 (levels ▸ List.mem_map_of_mem hx)
  refine ⟨fun x hx => ?_, fun t ht => ?_, ⟨insertLevel_nodup (levels ▸ h.levels.1) fun x hx => ?_, fun x hx => ?_⟩,
    nodup_nums closed.order, closed.order, closed.engines, fun q hq => ?_⟩
  · rcases mem_insertLevel.1 hx with rfl | hx
    · exact closed.joined
    · exact closed.owned x hx
  · by_cases new : t.num = takeNumber s.sw
    · exact ⟨_, mem_insertLevel.2 (.inl rfl), new.symm⟩
    · obtain ⟨x, hx, e⟩ := closed.owns t ht new
      exact ⟨x, mem_insertLevel.2 (.inr hx), e⟩
  · obtain ⟨y, hy, e⟩ := known hx
    exact e ▸ fresh y hy
  · rcases mem_insertLevel.1 hx with rfl | hx
    · exact level
    · obtain ⟨y, hy, e⟩ := known hx
      exact e ▸ h.levels.2 y hy
  · exact h.requests q (before.requests (by rw [requests] at hq; exact hq))

end Sys2Proof.Machine
end

section
/-! SUPPORT. The invariants that every step keeps: each is a predicate that the primitive writes keep everywhere. -/

namespace Sys2Proof.Machine

/-! ## The desk port (R172, R178, R179) -/

theorem deskSafe_writes : Writes fun s => s.desk.Safe where
  raise b p := p.offer b _
  aside h p := by rw [h]; exact p
  tracker _ _ p := p
  exclude _ _ p := p
  port _ p := p
  tr _ p := p
  groups _ p := p
  takes _ p := p
  closed _ p := p
  withdrawn _ p := p
  requested _ _ p := p
  opened _ _ p := (ArbiterWork.openService _ _).desk p

theorem deskSafe_kept : KeptEverywhere fun s => s.desk.Safe where
  toWrites := deskSafe_writes
  stopRun c _ _ _ p := deskSafe_writes.stopped c p
  idle _ p := p
  retaps _ _ _ _ p := p
  edit _ _ p := p
  copied _ _ p := p
  restart p := p
  cold _ _ _ _ := ⟨Nat.zero_le _, Nat.zero_le _, by simp [coldState, Desk.reset]⟩
  off _ p := ⟨p.notices, p.replies, by simp [powerRemovedWork]⟩
  desk h p := h p
  pending _ p := p

/-- Settles O4. -/
theorem stepKeepsDesk : Obligations.StepKeepsDesk := fun _ _ p h => deskSafe_kept.step p h

/-! ## The records of trackers and ports -/

/-- Writing one tracker's record keeps what holds of every record, when it holds of the new one. -/
theorem setTracker_forall {Q : Tracker → Prop} {s : State} {r : Rig} {x : Tracker} (hx : Q (s.tracker r) → Q x)
    (p : ∀ q, Q (s.tracker q)) : ∀ q, Q ((s.setTracker r x).tracker q) := by
  intro q
  by_cases e : q = r
  · rw [e, State.setTracker_tracker_self]; exact hx (p r)
  · rw [State.setTracker_tracker_other _ _ e]; exact p q

theorem setPort_forall {Q : Port → Prop} {s : State} {r : Rig} {x : Port} (hx : Q (s.port r) → Q x)
    (p : ∀ q, Q (s.port q)) : ∀ q, Q ((s.setPort r x).port q) := by
  intro q
  by_cases e : q = r
  · rw [e, State.setPort_port_self]; exact hx (p r)
  · rw [State.setPort_port_other _ _ e]; exact p q

theorem Tracker.Safe.reset : Tracker.reset.Safe :=
  ⟨Nat.zero_le _, Nat.zero_le _, Nat.zero_le _, Nat.zero_le _, by decide, by decide, by decide⟩

theorem Tracker.Safe.restart (t : Tracker) : t.restart.Safe := by
  unfold Tracker.restart
  split
  · exact { Tracker.Safe.reset with }
  · exact .reset

theorem Port.Safe.reset : Port.reset.Safe := ⟨Nat.zero_le _, Nat.zero_le _⟩

theorem trackersSafe_writes : Writes fun s => ∀ r, (s.tracker r).Safe where
  raise _ p := p
  aside h p := by rw [h]; exact p
  tracker h _ p := setTracker_forall h.safe p
  exclude _ _ p := setTracker_forall (·.exclude) p
  port _ p := p
  tr _ p := p
  groups _ p := p
  takes _ p := p
  closed _ p := p
  withdrawn _ p := p
  requested _ _ p := p
  opened _ _ p := fun r => (ArbiterWork.openService _ _).safe r (p r)

theorem trackersSafe_kept : KeptEverywhere fun s => ∀ r, (s.tracker r).Safe where
  toWrites := trackersSafe_writes
  stopRun c _ _ _ p := trackersSafe_writes.stopped c p
  idle _ p := p
  retaps _ _ _ h p := setTracker_forall h.safe p
  edit _ _ p := p
  copied _ _ p := p
  restart _ := fun r => by cases r <;> exact .restart _
  cold _ _ _ _ := fun r => by cases r <;> exact .reset
  off _ p := p
  desk _ p := p
  pending _ p := p

theorem portsSafe_writes : Writes fun s => ∀ r, (s.port r).Safe where
  raise _ p := p
  aside h p := by rw [h]; exact p
  tracker _ _ p := p
  exclude _ _ p := p
  port h p := setPort_forall h p
  tr _ p := p
  groups _ p := p
  takes _ p := p
  closed _ p := p
  withdrawn _ p := p
  requested _ _ p := p
  opened _ _ p := fun r => by rw [State.port, (ArbiterWork.openService _ _).ports]; exact p r

theorem portsSafe_kept : KeptEverywhere fun s => ∀ r, (s.port r).Safe where
  toWrites := portsSafe_writes
  stopRun c _ _ _ p := portsSafe_writes.stopped c p
  idle _ p := p
  retaps _ _ _ _ p := p
  edit _ _ p := p
  copied _ _ p := p
  restart p := p
  cold _ _ _ _ := fun r => by cases r <;> exact .reset
  off _ p := p
  desk _ p := p
  pending _ p := p

/-- Settles O5. -/
theorem stepKeepsRecords : Obligations.StepKeepsRecords := fun _ _ h =>
  ⟨fun p => trackersSafe_kept.step p h, fun p => portsSafe_kept.step p h⟩

/-! ## The working contents (R1, R149) -/

theorem setListSafe_writes : Writes fun s => SetListSafe s.setList where
  raise _ p := p
  aside h p := by rw [h]; exact p
  tracker _ _ p := p
  exclude _ _ p := p
  port _ p := p
  tr _ p := p
  groups _ p := p
  takes _ p := p
  closed _ p := p
  withdrawn _ p := p
  requested _ _ p := p
  opened _ _ p := by rw [(ArbiterWork.openService _ _).setList]; exact p

theorem setListSafe_kept : KeptEverywhere fun s => SetListSafe s.setList where
  toWrites := setListSafe_writes
  stopRun c _ _ _ p := setListSafe_writes.stopped c p
  idle _ p := p
  retaps _ _ _ _ p := p
  edit _ h p := h p
  copied h _ _ := .of_contents h
  restart p := p
  cold _ _ h _ := .of_contents h
  off _ p := p
  desk _ p := p
  pending _ p := p

theorem groupsSafe_writes : Writes fun s => GroupsSafe s.groups where
  raise _ p := p
  aside h p := by rw [h]; exact p
  tracker _ _ p := p
  exclude _ _ p := p
  port _ p := p
  tr _ p := p
  groups h p := h.safe p
  takes _ p := p
  closed _ p := p
  withdrawn _ p := p
  requested _ _ p := p
  opened _ _ p := (openService_frame _ _).1.safe p

theorem groupsSafe_kept : KeptEverywhere fun s => GroupsSafe s.groups where
  toWrites := groupsSafe_writes
  stopRun c _ _ _ p := groupsSafe_writes.stopped c p
  idle _ p := p.map (fun _ => ⟨rfl, rfl⟩) fun _ _ h => by cases h
  retaps _ _ _ _ p := p
  edit _ _ p := p
  copied h _ _ := .of_contents h
  restart p := p.map (fun _ => ⟨rfl, rfl⟩) fun _ _ h => by cases h
  cold _ _ h _ := .of_contents h
  off _ p := p
  desk _ p := p
  pending _ p := p

/-- The set list is one given list. -/
theorem setListIs_writes (l : List SegmentEntry) : Writes fun s => s.setList = l where
  raise _ p := p
  aside h p := by rw [h]; exact p
  tracker _ _ p := p
  exclude _ _ p := p
  port _ p := p
  tr _ p := p
  groups _ p := p
  takes _ p := p
  closed _ p := p
  withdrawn _ p := p
  requested _ _ p := p
  opened _ _ p := (ArbiterWork.openService _ _).setList.trans p

theorem setListIs_kept (l : List SegmentEntry) : Kept fun s => s.setList = l where
  toWrites := setListIs_writes l
  stopRun c _ _ _ p := (setListIs_writes l).stopped c p
  idle _ p := p

/-- Bytes on the desk link carry out one Command at most: until one is taken the transport is as it was, and from then on a
Reply is queued, so that no Command is taken. -/
theorem received_setList {s t : State} (h : Received s t) (running : ¬s.Stopped) :
    t.setList = s.setList ∧ (¬t.Stopped ∨ t.desk.replies ≠ []) := by
  induction h with
  | same => exact ⟨rfl, .inl running⟩
  | receiver _ _ ih => exact ih
  | @handled t u _ k ih =>
    cases k with
    | same => exact ih
    | reply => exact ⟨ih.1, .inr (by simp [pushReply])⟩
    | @work w h empty =>
      refine ⟨?_, .inr (by simp [pushReply])⟩
      have running : ¬t.Stopped := ih.2.resolve_right (not_not.2 empty)
      refine (setListIs_kept s.setList).command (P := fun s => _) h (fun _ stopped => absurd stopped running)
        (fun _ _ idle => absurd ⟨by simp [idle], by simp [idle]⟩ running) (fun _ => ?_) ih.1
      exact (setListIs_kept s.setList).restartReports
        (s := restartBlocks (abandonStore { t with desk := t.desk.restart }))
        ((setListIs_kept s.setList).abandonStore (s := { t with desk := t.desk.restart }) ih.1)

/-- Nothing but a cold start edits the set list of a running transport (R6, R9, R10, R18). -/
theorem exec_setList {i : Instr} {s t : State} (h : exec i s = .next t) (warm : i ≠ .coldStart)
    (running : ¬s.Stopped) : t.setList = s.setList := by
  obtain ⟨u, effect, e⟩ := exec_effect h
  have done : u.setList = s.setList := by
    cases effect with
    | cold => exact absurd rfl warm
    | powerRemoved => rfl
    | received _ k => exact (received_setList k running).1
    | event _ k =>
      exact (setListIs_kept s.setList).event k
        (fun r bytes _ => (setListIs_kept s.setList).rigMessage (fun _ _ _ p => p) bytes rfl) rfl
    | transmitEnd => rfl
  rcases e with rfl | rfl <;> exact done

/-- Settles O6. -/
theorem stepKeepsContents : Obligations.StepKeepsContents := by
  refine fun s t h => ⟨fun p => setListSafe_kept.step p h, fun p => groupsSafe_kept.step p h, fun warm running => ?_⟩
  unfold step at h
  split at h
  · cases h; rfl
  · rename_i c cs queue
    exact exec_setList (s := { s with pending := cs }) h (by simpa [queue] using warm) (State.not_stopped.2 running)

/-! ## The transport (R1, R22, R23) -/

theorem State.PlanSafe.of_eq {s t : State} (h : s.PlanSafe) (tr : t.tr = s.tr) (setList : t.setList = s.setList) :
    t.PlanSafe :=
  ⟨tr ▸ h.transport, by simpa [State.codeAt, tr, setList] using h.codes⟩

theorem planSafe_writes : Writes State.PlanSafe where
  raise _ p := p.of_eq rfl rfl
  aside h p := by rw [h]; exact p.of_eq rfl rfl
  tracker _ _ p := p.of_eq rfl rfl
  exclude _ _ p := p.of_eq rfl rfl
  port _ p := p.of_eq rfl rfl
  tr h p := h.plan p
  groups _ p := p.of_eq rfl rfl
  takes _ p := p.of_eq rfl rfl
  closed _ p := p.of_eq rfl rfl
  withdrawn _ p := p.of_eq rfl rfl
  requested _ _ p := p.of_eq rfl rfl
  opened _ _ p := p.of_eq (ArbiterWork.openService _ _).tr (ArbiterWork.openService _ _).setList

/-- A transport with no plan, whose house position is absent exactly in IDLE. -/
theorem State.PlanSafe.unplanned {s : State} (house : s.tr.house = none ↔ s.tr.st = .idle) (plan : s.tr.plan = []) :
    s.PlanSafe := ⟨⟨house, fun _ _ => plan⟩, by simp [plan]⟩

theorem planSafe_kept : KeptEverywhere State.PlanSafe where
  toWrites := planSafe_writes
  stopRun {s st house} c _ stops present p := by
    refine planSafe_writes.stopped c (.unplanned ⟨fun e => absurd e (present p), fun e => ?_⟩ rfl)
    rcases stops with rfl | rfl <;> cases e
  idle from_ p := .unplanned ⟨fun _ => rfl, fun _ => rfl⟩
    (p.plan_nil (by rcases from_ with e | e <;> simp [State.Stopped, e]))
  retaps _ _ _ _ p := p.of_eq rfl rfl
  edit stopped _ p := .unplanned p.transport.house (p.plan_nil stopped)
  copied _ idle p := .unplanned p.transport.house (p.plan_nil (by simp [State.Stopped, idle]))
  restart _ := .unplanned ⟨fun _ => rfl, fun _ => rfl⟩ rfl
  cold _ _ _ _ := .unplanned ⟨fun _ => rfl, fun _ => rfl⟩ rfl
  off _ p := p.of_eq rfl rfl
  desk _ p := p.of_eq rfl rfl
  pending _ p := p.of_eq rfl rfl

/-- Settles O7. -/
theorem stepKeepsPlan : Obligations.StepKeepsPlan := fun _ _ p h => planSafe_kept.step p h

/-! ## What belongs to ROLLING (R33, R108, R123, R145) -/

theorem stoppedSafe_writes : Writes State.StoppedSafe where
  raise _ p := { p with }
  aside h p := by rw [h]; exact { p with }
  tracker _ _ p := { p with }
  exclude _ _ p := { p with }
  port _ p := { p with }
  tr {s t} h p := by
    rcases h.st with e | ⟨stopped, left⟩
    · exact ⟨fun n => p.takes (e ▸ n), fun n => p.requests (e ▸ n), fun i => p.idle (e ▸ i)⟩
    · exact ⟨fun _ => p.takes stopped, fun _ => p.requests stopped, fun i => absurd i left⟩
  groups {s gs} h p := ⟨p.takes, p.requests, fun idle g hg => by
    have idle : s.tr.st = .idle := idle
    have none := p.takes (by simp [idle])
    rcases h.sources g hg with ⟨x, hx, e⟩ | e | ⟨t, ht, -⟩ | ⟨n, -⟩
    · exact e.trans (p.idle idle x hx)
    · exact e
    · rw [none] at ht; cases ht
    · exact absurd idle n⟩
  takes {s f} _ p := ⟨fun n => by simp [show s.sw.takes = [] from p.takes n], p.requests, p.idle⟩
  closed {s} n p := ⟨fun h => by simp [State.withoutTake, show s.sw.takes = [] from p.takes h], p.requests, p.idle⟩
  withdrawn {s} q p :=
    ⟨p.takes, fun h => by simp [State.onRequests, show s.arb.requests = [] from p.requests h], p.idle⟩
  requested rolling _ p := ⟨p.takes, fun h => absurd rolling h, p.idle⟩
  opened {s o} _ ok p := by
    have rolling : (openService o s).tr.st = .rolling := by rw [(ArbiterWork.openService o s).tr]; exact ok.rolling
    exact ⟨fun h => absurd rolling h, fun h => absurd rolling h, fun h => by rw [rolling] at h; cases h⟩

theorem clearAllCued_tr (s : State) : (clearAllCued s).tr = s.tr := by
  have one (u : State) (r : Rig) : (clearCued u r).tr = u.tr := by
    unfold clearCued; split <;> rfl
  simp [clearAllCued, Rig.all, one]

/-- The stop of a run leaves no take and no request, and a transport in PARKED or ENDED (R31, R38, R123, R145). -/
theorem stopRun_stoppedSafe (st : TState) (house : Option Pos) (c : Close) (s : State) (stops : st = .parked ∨ st = .ended) :
    (stopRun st house c s).StoppedSafe := by
  have cued : (clearAllCued (s.onTr (·.stop st house))).tr.st = st := by rw [clearAllCued_tr]; rfl
  have stopped : (stopRun st house c s).tr.st = st := (congrArg Transport.st (ArbiterWork.closeAll c _).tr).trans cued
  refine ⟨fun _ => closeAll_takes ?_ c, fun _ => rfl, fun idle => ?_⟩
  · rw [cued]; rcases stops with rfl | rfl <;> exact TState.noConfusion
  · rw [stopped] at idle
    rcases stops with rfl | rfl <;> cases idle

theorem stoppedSafe_kept : KeptEverywhere State.StoppedSafe where
  toWrites := stoppedSafe_writes
  stopRun {s st house} c _ stops _ _ := stopRun_stoppedSafe st house c s stops
  idle {s} from_ p := by
    have stopped : s.tr.st ≠ .rolling := by rcases from_ with e | e <;> simp [e]
    refine ⟨fun _ => p.takes stopped, fun _ => p.requests stopped, fun _ g hg => ?_⟩
    obtain ⟨x, -, rfl⟩ := List.mem_map.1 hg
    rfl
  retaps _ _ _ _ p := { p with }
  edit _ _ p := { p with }
  copied _ idle p := ⟨p.takes, p.requests, fun _ g hg => by obtain ⟨x, -, rfl⟩ := List.mem_map.1 hg; rfl⟩
  restart _ := ⟨fun _ => rfl, fun _ => rfl, fun _ g hg => by obtain ⟨x, -, rfl⟩ := List.mem_map.1 hg; rfl⟩
  cold _ _ _ _ := ⟨fun _ => rfl, fun _ => rfl, fun _ g hg => by obtain ⟨x, -, rfl⟩ := List.mem_map.1 hg; rfl⟩
  off _ p := { p with }
  desk _ p := { p with }
  pending _ p := { p with }

/-- Settles O8. -/
theorem stepKeepsStopped : Obligations.StepKeepsStopped := fun _ _ p h => stoppedSafe_kept.step p h

/-! ## Levels in service and open takes (R108, R110, R128) -/

/-- No take is open, nothing in service and no request pending. -/
theorem State.ServiceSafe.none {s : State} (takes : s.sw.takes = []) (inService : s.arb.inService = [])
    (requests : s.arb.requests = []) : s.ServiceSafe := by
  constructor <;> simp [takes, inService, requests]

/-- A rewrite of the open takes that keeps their numbers, and engines with BLENDING takes. -/
theorem State.ServiceSafe.takes {s : State} {f : Take → Take} (h : TakesMove s f) (p : s.ServiceSafe) :
    ({ s with sw := { s.sw with takes := s.sw.takes.map f } } : State).ServiceSafe := by
  have nums : (s.sw.takes.map f).map (·.num) = s.sw.takes.map (·.num) := by
    rw [List.map_map]
    exact List.map_congr_left fun t ht => h.num t ht
  have order : (s.sw.takes.map f).Pairwise fun t u => t.num < u.num := by
    rw [← List.pairwise_map (f := Take.num) (R := (· < ·)), nums, List.pairwise_map]
    exact p.order
  refine ⟨fun x hx => ?_, fun t ht => ?_, p.levels, nodup_nums order, order, fun t ht => ?_, p.requests⟩
  · obtain ⟨t, ht, e⟩ := p.owned x hx
    exact ⟨f t, List.mem_map_of_mem ht, (h.num t ht).trans e⟩
  · obtain ⟨u, hu, rfl⟩ := List.mem_map.1 ht
    obtain ⟨x, hx, e⟩ := p.owns u hu
    exact ⟨x, hx, e.trans (h.num u hu).symm⟩
  · obtain ⟨u, hu, rfl⟩ := List.mem_map.1 ht
    exact h.engine p.engines u hu

/-- A close takes the record from the table and its levels out of service. -/
theorem State.ServiceSafe.closed {s : State} (n : Nat) (p : s.ServiceSafe) : (s.withoutTake n).ServiceSafe := by
  have order : (s.withoutTake n).sw.takes.Pairwise fun t u => t.num < u.num := p.order.sublist List.filter_sublist
  refine ⟨fun x hx => ?_, fun t ht => ?_, ⟨?_, fun x hx => p.levels.2 x (List.mem_filter.1 hx).1⟩, nodup_nums order, order,
    fun t ht => p.engines t (List.mem_filter.1 ht).1, p.requests⟩
  · obtain ⟨hx, ne⟩ := List.mem_filter.1 hx
    obtain ⟨t, ht, e⟩ := p.owned x hx
    exact ⟨t, List.mem_filter.2 ⟨ht, by simpa [e] using ne⟩, e⟩
  · obtain ⟨ht, ne⟩ := List.mem_filter.1 ht
    obtain ⟨x, hx, e⟩ := p.owns t ht
    exact ⟨x, List.mem_filter.2 ⟨hx, by simpa [e] using ne⟩, e⟩
  · exact p.levels.1.sublist (List.filter_sublist.map _)

theorem serviceSafe_writes : Writes State.ServiceSafe where
  raise _ p := { p with }
  aside h p := by rw [h]; exact { p with }
  tracker _ _ p := { p with }
  exclude _ _ p := { p with }
  port _ p := { p with }
  tr _ p := { p with }
  groups _ p := { p with }
  takes h p := p.takes h
  closed n p := p.closed n
  withdrawn _ p := { p with requests := fun q hq => p.requests q (List.mem_filter.1 hq).1 }
  requested {s q} _ level p := { p with
    requests := fun x hx => by
      rcases List.mem_append.1 hx with hx | hx
      · exact p.requests x hx
      · rw [List.mem_singleton.1 hx]; exact level }
  opened level ok p := p.opened (level fun _ h => h.requests) ok.fresh

theorem serviceSafe_kept : KeptEverywhere State.ServiceSafe where
  toWrites := serviceSafe_writes
  stopRun c _ _ _ p := serviceSafe_writes.stopped c { p with }
  idle _ p := { p with }
  retaps _ _ _ _ p := { p with }
  edit _ _ p := { p with }
  copied _ _ p := { p with }
  restart _ := .none rfl rfl rfl
  cold _ _ _ _ := .none rfl rfl rfl
  off _ p := { p with }
  desk _ p := { p with }
  pending _ p := { p with }

/-- Settles O9. -/
theorem stepKeepsService : Obligations.StepKeepsService := fun _ _ p h => serviceSafe_kept.step p h

/-! ## Excluded rigs (R79, R86, R113, R121) -/

/-- Sources and targets that come from those there were, from FALLBACK and from rigs that are not EXCLUDED. -/
theorem State.ExcludedSafe.of {s t : State} (p : s.ExcludedSafe)
    (excluded : ∀ r, (t.tracker r).st = .excluded → (s.tracker r).st = .excluded ∧
      ((s.tracker r).cued = false → (t.tracker r).cued = false))
    (groups : ∀ g ∈ t.groups, (∃ x ∈ s.groups, g.source = x.source) ∨ g.source = .fallback ∨
      (∃ x ∈ s.sw.takes, g.source = x.target) ∨
        ∃ r, g.source = .rig r ∧ ((s.tracker r).st = .excluded → (s.tracker r).cued = true))
    (takes : ∀ u ∈ t.sw.takes, (∃ x ∈ s.sw.takes, u.target = x.target) ∨ u.target = .fallback ∨
      ∃ r, u.target = .rig r ∧ (s.tracker r).st = .ready) : t.ExcludedSafe := by
  intro r hr
  obtain ⟨was, cued⟩ := excluded r hr
  obtain ⟨off, free, dark⟩ := p r was
  refine ⟨fun g hg e => ?_, fun u hu e => ?_, cued dark⟩
  · rcases groups g hg with ⟨x, hx, k⟩ | k | ⟨x, hx, k⟩ | ⟨q, k, ok⟩
    · exact off x hx (k ▸ e)
    · rw [k] at e; cases e
    · exact free x hx (k ▸ e)
    · rw [k] at e
      cases e
      rw [ok was] at dark
      cases dark
  · rcases takes u hu with ⟨x, hx, k⟩ | k | ⟨q, k, ready⟩
    · exact free x hx (k ▸ e)
    · rw [k] at e; cases e
    · rw [k] at e
      cases e
      rw [was] at ready
      cases ready

theorem setTracker_excludedSafe {s : State} {r : Rig} {x : Tracker} (h : TrackerMove (s.tracker r) x)
    (p : s.ExcludedSafe) : (s.setTracker r x).ExcludedSafe := by
  refine p.of (fun q hq => ?_) (fun g hg => .inl ⟨g, hg, rfl⟩) fun u hu => .inl ⟨u, hu, rfl⟩
  by_cases e : q = r
  · subst e
    rw [State.setTracker_tracker_self] at hq ⊢
    exact h.excluded hq
  · rw [State.setTracker_tracker_other _ _ e] at hq ⊢
    exact ⟨hq, id⟩

theorem exclude_excludedSafe {s : State} {r : Rig} (off : s.onAir r = false) (free : isTarget s.sw.takes r = false)
    (p : s.ExcludedSafe) : (s.setTracker r (s.tracker r).exclude).ExcludedSafe := by
  intro q hq
  by_cases e : q = r
  · subst e
    rw [State.setTracker_tracker_self]
    exact ⟨by simpa [State.onAir, carries] using off, by simpa [isTarget] using free, rfl⟩
  · rw [State.setTracker_tracker_other _ _ e] at hq ⊢
    exact p q hq

theorem excludedSafe_writes : Writes State.ExcludedSafe where
  raise _ p := p
  aside h p := by rw [h]; exact p
  tracker h _ p := setTracker_excludedSafe h p
  exclude off free p := exclude_excludedSafe off free p
  port _ p := p
  tr _ p := p
  groups {s gs} h p := p.of (fun _ h => ⟨h, id⟩)
    (fun g hg => (h.sources g hg).imp_right (Or.imp_right (Or.imp_right And.right))) fun u hu => .inl ⟨u, hu, rfl⟩
  takes {s f} h p := p.of (fun _ h => ⟨h, id⟩) (fun g hg => .inl ⟨g, hg, rfl⟩) fun u hu => by
    obtain ⟨x, hx, rfl⟩ := List.mem_map.1 hu
    exact (h.target x hx).imp_left fun e => ⟨x, hx, e⟩
  closed n p := p.of (fun _ h => ⟨h, id⟩) (fun g hg => .inl ⟨g, hg, rfl⟩) fun u hu =>
    .inl ⟨u, (List.mem_filter.1 hu).1, rfl⟩
  withdrawn _ p := p
  requested _ _ p := p
  opened {s o} _ ok p := by
    have work := ArbiterWork.openService o s
    obtain ⟨groups, targets⟩ := openService_frame o s
    refine p.of (fun r h => ⟨work.excluded r h, fun c => (work.cued r).trans c⟩)
      (fun g hg => (groups.sources g hg).imp_right (Or.imp_right (Or.imp_right And.right))) fun u hu => ?_
    rcases targets u hu with e | h
    · exact .inr (ok.target.imp (e.trans ·) fun ⟨r, k, ready⟩ => ⟨r, e.trans k, ready⟩)
    · exact .inl h

/-- Groups on FALLBACK and no take but those there were. -/
theorem State.ExcludedSafe.silent {s t : State} (p : s.ExcludedSafe) (trackers : t.trackers = s.trackers)
    (groups : ∀ g ∈ t.groups, g.source = .fallback) (takes : t.sw = s.sw) : t.ExcludedSafe :=
  p.of (fun r h => by rw [State.tracker, trackers] at h; rw [State.tracker, State.tracker, trackers]; exact ⟨h, id⟩) (fun g hg => .inr (.inl (groups g hg)))
    fun u hu => .inl ⟨u, takes ▸ hu, rfl⟩

theorem excludedSafe_kept : KeptEverywhere State.ExcludedSafe where
  toWrites := excludedSafe_writes
  stopRun c _ _ _ p := excludedSafe_writes.stopped c p
  idle _ p := p.silent rfl (by simp [Group.place]) rfl
  retaps _ _ _ h p := setTracker_excludedSafe h p
  edit _ _ p := p
  copied _ _ p := p.silent rfl (fun g hg => by obtain ⟨x, -, rfl⟩ := List.mem_map.1 hg; rfl) rfl
  restart {s} p := by
    have restarted (t : Tracker) : t.restart.cued = false := by
      unfold Tracker.restart; split <;> rfl
    refine fun r _ => ⟨by simp [restartBlocks, Group.restart], by simp [restartBlocks], ?_⟩
    cases r <;> exact restarted _
  cold _ _ _ _ := fun r h => by cases r <;> cases h
  off _ p := p
  desk _ p := p
  pending _ p := p

/-- Settles O10. -/
theorem stepKeepsExcluded : Obligations.StepKeepsExcluded := fun _ _ p h => excludedSafe_kept.step p h

end Sys2Proof.Machine
end

section
/-! SUPPORT. The tap of a rig on air (R73): what a Block message may do on the way to its report, and why the report finds
the tap frozen or a tracker that does no tag work. -/

namespace Sys2Proof.Machine

/-! ## The tap stands -/

theorem tapIs_writes (r : Rig) (n : Nat) : Writes fun s => (s.tracker r).tap = n where
  raise _ p := p
  aside h p := by rw [h]; exact p
  tracker {s q x} _ h p := by
    by_cases e : r = q
    · subst e; exact (congrArg Tracker.tap (State.setTracker_tracker_self s r x)).trans (h.trans p)
    · exact (congrArg Tracker.tap (State.setTracker_tracker_other s x e)).trans p
  exclude {s q} _ _ p := by
    by_cases e : r = q
    · subst e; exact (congrArg Tracker.tap (State.setTracker_tracker_self s r _)).trans p
    · exact (congrArg Tracker.tap (State.setTracker_tracker_other s _ e)).trans p
  port _ p := p
  tr _ p := p
  groups _ p := p
  takes _ p := p
  closed _ p := p
  withdrawn _ p := p
  requested _ _ p := p
  opened {s o} _ _ p := ((ArbiterWork.openService o s).tap r).trans p

theorem tapIs_kept (r : Rig) (n : Nat) : Kept fun s => (s.tracker r).tap = n where
  toWrites := tapIs_writes r n
  stopRun c _ _ _ p := (tapIs_writes r n).stopped c p
  idle _ p := p

/-- Another rig's report leaves the tap. -/
theorem tapIs_retaps {r q : Rig} (h : r ≠ q) (n : Nat) : Retaps (fun s => (s.tracker r).tap = n) q :=
  fun s x _ p => (congrArg Tracker.tap (State.setTracker_tracker_other s x h)).trans p

/-! ## A STALL stands through arbiter and take work -/

/-- The tracker is FAILED with STALL held, and no GOOD report has come since. -/
def Tracker.Stalled (t : Tracker) : Prop := t.st = .failed ∧ t.causes.stall = true ∧ t.goodRun = 0

/-- A cleared SLIP leaves a STALL (R99, R107). -/
theorem Tracker.Stalled.clearSlip {t : Tracker} (h : t.Stalled) : (clearCause .slip t).Stalled := by
  obtain ⟨st, stall, run⟩ := h
  obtain ⟨empty, -⟩ | ⟨-, e⟩ := clearCause_cases .slip t
  · simp [Causes.isEmpty, Causes.remove, stall] at empty
  · rw [e]; exact ⟨st, stall, run⟩

theorem setTracker_clearSlip_stalled {s : State} {r : Rig} (q : Rig) (p : (s.tracker r).Stalled) :
    ((s.setTracker q (clearCause .slip (s.tracker q))).tracker r).Stalled := by
  by_cases e : r = q
  · subst e; rw [State.setTracker_tracker_self]; exact p.clearSlip
  · rw [State.setTracker_tracker_other _ _ e]; exact p

theorem lossReports_stalled {s : State} {r : Rig} (before : List Group) (p : (s.tracker r).Stalled) :
    ((lossReports before s).tracker r).Stalled := by
  refine List.foldlRecOn (motive := fun u : State => (u.tracker r).Stalled) _ _ p fun u hu q _ => ?_
  rw [lossReport_tracker]
  split
  · unfold slipClear
    split
    · exact setTracker_clearSlip_stalled q hu
    · exact hu
  · exact hu

theorem supersedeTake_trackers (names : List Nat) (n : Nat) (s : State) (t : Take) :
    (supersedeTake names n s t).trackers = s.trackers := by
  unfold supersedeTake
  dsimp only
  split
  · rfl
  · split <;> rfl

theorem openService_stalled {s : State} {r : Rig} (o : OpenOrder) (p : (s.tracker r).Stalled) :
    ((openService o s).tracker r).Stalled := by
  have superseded : ∀ (ts : List Take) (u : State), (u.tracker r).Stalled →
      ((ts.foldl (supersedeTake (o.members.map (·.1)) (takeNumber s.sw)) u).tracker r).Stalled := fun ts u hu =>
    List.foldlRecOn (motive := fun u : State => (u.tracker r).Stalled) _ _ hu fun u hu t _ => by
      rw [State.tracker, supersedeTake_trackers]; exact hu
  have closed : ∀ (ts : List Take) (u : State), (u.tracker r).Stalled →
      ((ts.foldl (closeSuperseded (takeNumber s.sw)) u).tracker r).Stalled := fun ts u hu =>
    List.foldlRecOn (motive := fun u : State => (u.tracker r).Stalled) _ _ hu fun _ hu _ _ => hu
  unfold openService
  dsimp only
  rw [openTake_eq]
  exact closed _ _ (lossReports_stalled _ (superseded _ _ p))

theorem stalled_writes (r : Rig) : ArbiterWrites fun s => (s.tracker r).Stalled where
  raise _ p := p
  slip q p := setTracker_clearSlip_stalled q p
  groups _ p := p
  takes _ p := p
  closed _ p := p
  withdrawn _ p := p
  requested _ _ p := p
  opened _ _ p := openService_stalled _ p

/-! ## What comes before a Block's report -/

/-- The tap of a rig on air cannot change in ROLLING: it is frozen, or the tracker does no tag work. -/
structure TapFrozen (r : Rig) (n : Nat) (s : State) : Prop where
  tap : (s.tracker r).tap = n
  rolling : s.tr.st = .rolling
  why : s.onAir r = true ∨ (s.tracker r).Stalled

theorem TapFrozen.of_eq {r : Rig} {n : Nat} {s t : State} (h : TapFrozen r n s) (tracker : t.tracker r = s.tracker r)
    (groups : t.groups = s.groups) (st : t.tr.st = s.tr.st) : TapFrozen r n t :=
  ⟨tracker ▸ h.tap, st.trans h.rolling, by rw [State.onAir, groups, tracker]; exact h.why⟩

/-- A bad block changes the tracker's counts, or makes it a stalled one (R91, R92). -/
theorem badStep_cases (t : Tracker) :
    ((badStep t).detection = some .stall ∧ (badStep t).ready = false ∧ (badStep t).t.Stalled) ∨
      ((badStep t).notify = false ∧ (badStep t).ready = false ∧ (badStep t).detection = none ∧
        (t.Stalled → (badStep t).t.Stalled)) := by
  unfold badStep
  dsimp only
  split
  · refine .inl ⟨rfl, rfl, Tracker.fail_st _ _, ?_, ?_⟩ <;>
      (unfold Tracker.fail; dsimp only; split <;> rfl)
  · refine .inr ⟨rfl, rfl, rfl, fun h => ⟨?_, ?_, rfl⟩⟩ <;> (unfold Tracker.breakMatches; split)
    · exact h.1
    · exact h.1
    · exact h.2.1
    · exact h.2.1

theorem missingReport_tapFrozen {r : Rig} {n : Nat} {s : State} (e : HouseFrame) (h : TapFrozen r n s) :
    TapFrozen r n (blockReport r e .missing s) := by
  unfold blockReport
  dsimp only
  split
  · exact h
  · have work := ArbiterWork.applyStep r (reportStep s r e .missing (s.tracker r)) false s
    have tap : (reportStep s r e .missing (s.tracker r)).t.tap = n := (StillMove.badStep (s.tracker r)).tap.trans h.tap
    refine ⟨?_, by rw [work.tr]; exact h.rolling, ?_⟩
    · rw [work.tap, State.setTracker_tracker_self]; exact tap
    · obtain ⟨-, -, stalled⟩ | ⟨quiet, notReady, none, kept⟩ := badStep_cases (s.tracker r)
      · refine .inr ((stalled_writes r).applyStep false ?_)
        rw [State.setTracker_tracker_self]
        exact stalled
      · have step : applyStep r (reportStep s r e .missing (s.tracker r)) false s =
            s.setTracker r (badStep (s.tracker r)).t := by
          simp [applyStep, reportStep, quiet, notReady, none]
        rw [step]
        exact h.why.imp id fun k => by rw [State.setTracker_tracker_self]; exact kept k

theorem expireLate_tapFrozen {r : Rig} {n : Nat} : ∀ (k : Nat) {s : State}, TapFrozen r n s →
    TapFrozen r n (expireLate r k s)
  | 0, _, h => h
  | k + 1, s, h => by
    unfold expireLate
    split
    · refine expireLate_tapFrozen k ?_
      unfold expireSlot
      dsimp only
      have written : TapFrozen r n (s.setPort r ((s.port r).expire ‹_›)) := h.of_eq rfl rfl rfl
      split
      · exact missingReport_tapFrozen _ written
      · exact written
    · exact h

/-- Appends change transport and notice queue alone. -/
structure Appended (s t : State) : Prop where
  frame : t = { s with tr := t.tr, desk := t.desk }
  st : t.tr.st = s.tr.st

theorem Appended.trans {s t u : State} (h : Appended s t) (k : Appended t u) : Appended s u :=
  ⟨by rw [k.frame, h.frame], k.st.trans h.st⟩

theorem appendPlain_appended (i o p : Nat) (e : SegmentEntry) (s : State) : Appended s (appendPlain i o p e s) := by
  refine ⟨?_, appendPlain_st i o p e s⟩
  unfold appendPlain
  split
  · rfl
  · split <;> rfl

theorem append_appended (c : Nat) (s : State) : Appended s (append c s) := by
  unfold append
  split
  · exact ⟨rfl, rfl⟩
  · split
    · exact ⟨rfl, rfl⟩
    · split
      · unfold appendNext
        dsimp only
        split
        · split
          · split
            · exact ⟨rfl, rfl⟩
            · exact .trans (t := s.onTr fun t => { t with latch := false }) ⟨rfl, rfl⟩
                ((appendPlain_appended ..).trans ⟨rfl, rfl⟩)
          · exact appendPlain_appended ..
        · exact appendPlain_appended ..
      · exact ⟨rfl, rfl⟩

theorem catchUp_appended : ∀ (n : Nat) (s : State), Appended s (catchUp n s)
  | 0, _ => ⟨rfl, rfl⟩
  | n + 1, s => by
    unfold catchUp
    split
    · exact ⟨rfl, rfl⟩
    · exact (append_appended _ s).trans (catchUp_appended n _)

/-- A press in ROLLING changes transport and notice queue alone, and not the transport's state (R43). -/
theorem press_appended {s : State} (rolling : s.tr.st = .rolling) (src : PressSource) : Appended s (press src s) := by
  have same : Appended s s := ⟨rfl, rfl⟩
  have go : Appended s (goWork src s).1 := by
    unfold goWork
    rw [rolling]
    dsimp only
    split
    · have cancelled : Appended s (s.onTr fun t =>
          { t.markLast false with parkPending := false, cause := some ⟨.go, src, s.block⟩ }) := ⟨rfl, rfl⟩
      unfold goCancel
      dsimp only
      split
      · refine Appended.trans ?_ (catchUp_appended _ _)
        exact cancelled.trans ⟨rfl, rfl⟩
      · exact cancelled
    · exact same
  have release : Appended s (releaseWork src s).1 := by
    unfold releaseWork
    split
    · split
      · exact same
      · exact ⟨rfl, rfl⟩
    · exact same
  unfold press
  rw [rolling]
  dsimp only
  split
  · split
    · exact go
    · split
      · exact release
      · exact same
  · exact same

theorem rigCue_tapFrozen {r q : Rig} {n : Nat} {s : State} (cue : Bool) (h : TapFrozen r n s) :
    TapFrozen r n (rigCue q cue s) := by
  unfold rigCue
  dsimp only
  split
  · exact h.of_eq rfl rfl rfl
  · have flagged : TapFrozen r n (s.setRigCue q (some cue)) := h.of_eq rfl rfl rfl
    split
    · have pressed := press_appended flagged.rolling (.rig q)
      refine flagged.of_eq ?_ ?_ pressed.st <;> rw [pressed.frame]
      rfl
    · exact flagged

theorem linkLocked_tapFrozen {r : Rig} {n : Nat} {s : State} (h : TapFrozen r n s) : TapFrozen r n (linkLocked r s) := by
  refine ⟨?_, h.rolling, h.why.imp id fun k => ?_⟩
  · exact (congrArg Tracker.tap (State.setTracker_tracker_self s r _)).trans ((StillMove.locked _).tap.trans h.tap)
  · have : (s.tracker r).locked = s.tracker r := if_neg (by simp [k.1])
    rw [show (linkLocked r s).tracker r = _ from State.setTracker_tracker_self s r _, this]
    exact k

/-- The report of a Block finds a frozen tap, or a tracker that does no tag work. -/
theorem blockReport_tapFrozen {r : Rig} {n : Nat} {s : State} (stamp : HouseFrame) (v : Verdict) (h : TapFrozen r n s) :
    ((blockReport r stamp v s).tracker r).tap = n := by
  unfold blockReport
  dsimp only
  split
  · exact h.tap
  · rw [(ArbiterWork.applyStep ..).tap, State.setTracker_tracker_self]
    refine Eq.trans ?_ h.tap
    unfold reportStep
    split
    · rename_i tag parked
      have counted := (StillMove.goodCount (s.tracker r)).tap
      dsimp only
      unfold goodStep
      rw [h.rolling]
      dsimp only
      split
      · rename_i works
        rcases h.why with onAir | stalled
        · rw [runningStep_tap (by simp [State.tapFree, onAir, h.rolling])]
          exact counted
        · have failed : (goodCount (s.tracker r)).1.st = .failed := by
            unfold goodCount
            simp [stalled.2.2, Config.clearRun, stalled.1]
          rw [failed] at works
          cases works
      · exact counted
    · exact (StillMove.badStep (s.tracker r)).tap

/-! ## The Block message -/

theorem acquireStep_down {p : Port} (h : p.link = .down) (t : Timing) : (acquireStep p t).1 = .acquiring := by
  unfold acquireStep
  rw [h]

/-- A Block on a link that is DOWN makes no report (R49). -/
theorem placeBlock_tapIs_of_down {r : Rig} {n : Nat} {s : State} (h : BlockHead) (samples : List Byte)
    (down : (s.port r).link = .down) (tap : (s.tracker r).tap = n) : ((placeBlock r h samples s).tracker r).tap = n := by
  have k := tapIs_kept r n
  unfold placeBlock
  dsimp only
  generalize stampOf (s.port r) s.now = x
  have link : ((s.port r).takeBlock h samples s.now x.1 x.2).link = .acquiring := acquireStep_down down _
  have written : ((s.setPort r ((s.port r).takeBlock h samples s.now x.1 x.2)).tracker r).tap = n := tap
  generalize (s.port r).takeBlock h samples s.now x.1 x.2 = q at link written ⊢
  rw [link, down]
  simp only [reduceCtorEq, if_false]
  exact k.either (k.rigCue r h.cue (k.raiseRigState r false written)) (k.raiseRigState r false written)

theorem placeBlock_tapFrozen {r : Rig} {n : Nat} {s : State} (h : BlockHead) (samples : List Byte)
    (frozen : TapFrozen r n s) : ((placeBlock r h samples s).tracker r).tap = n := by
  unfold placeBlock
  dsimp only
  generalize stampOf (s.port r) s.now = x
  generalize (s.port r).takeBlock h samples s.now x.1 x.2 = q
  have written : TapFrozen r n (s.setPort r q) := frozen.of_eq rfl rfl rfl
  have linked : TapFrozen r n (if q.link = (s.port r).link then s.setPort r q
      else if q.link = .locked then linkLocked r (s.setPort r q) else raiseRigState r false (s.setPort r q)) := by
    split
    · exact written
    · split
      · exact linkLocked_tapFrozen written
      · exact written.of_eq rfl rfl rfl
  generalize (if q.link = (s.port r).link then _ else _ : State) = u at linked ⊢
  have cued : TapFrozen r n (if h.tagOk = true then rigCue r h.cue u else u) := by
    split
    · exact rigCue_tapFrozen h.cue linked
    · exact linked
  split
  · exact blockReport_tapFrozen _ _ cued
  · exact cued.tap

theorem dropLink_port (f : Port → Port) (r : Rig) (s : State) : (dropLink f r s).port r = f (s.port r) := by
  unfold dropLink
  dsimp only
  generalize h : (((s.setPort r (f (s.port r))).setRigCue r none).setTracker r (s.tracker r).linkDown) = u
  have port : u.port r = f (s.port r) := by
    rw [← h]; exact State.setPort_port_self s r _
  have shown : (if (s.port r).link = .down then u else raiseRigState r false u).port r = f (s.port r) := by
    split <;> exact port
  split
  · exact shown
  · rw [State.port, (ArbiterWork.detect ..).ports]; exact shown

/-- A silence limit that has been passed leaves the link DOWN (R50). -/
theorem silenceLimit_down {r : Rig} {s : State} {a : HouseFrame} (last : (s.port r).lastArrival = some a)
    (overdue : (Config.silenceFrames : Int) < frameDiff s.now a) : ((silenceLimit r s).port r).link = .down := by
  unfold silenceLimit
  split
  · rw [dropLink_port]; rfl
  · rename_i quiet
    unfold silent at quiet
    rw [last] at quiet
    cases h : (s.port r).link with
    | down => rfl
    | acquiring => rw [h] at quiet; exact absurd (decide_eq_true (Int.le_of_lt overdue)) quiet
    | locked => rw [h] at quiet; exact absurd (decide_eq_true (Int.le_of_lt overdue)) quiet

theorem expireLate_of_down {r : Rig} {s : State} (down : (s.port r).link = .down) (n : Nat) : expireLate r n s = s := by
  cases n with
  | zero => rfl
  | succ n => simp [expireLate, expired, down]

/-- A rig's own Block leaves its tap while it is on air in ROLLING (R73). -/
theorem takeBlock_tapFrozen {r : Rig} {s : State} (h : BlockHead) (samples : List Byte) (rolling : s.tr.st = .rolling)
    (onAir : s.onAir r = true) : ((takeBlock r h samples s).tracker r).tap = (s.tracker r).tap := by
  have placed : ((placeBlock r h samples (expireLate r 8 s)).tracker r).tap = (s.tracker r).tap :=
    placeBlock_tapFrozen h samples (expireLate_tapFrozen 8 ⟨rfl, rolling, .inl onAir⟩)
  unfold takeBlock
  cases last : (s.port r).lastArrival with
  | none => exact placed
  | some a =>
    dsimp only
    split
    · rename_i overdue
      have down := silenceLimit_down last (of_decide_eq_true overdue)
      rw [expireLate_of_down down]
      exact placeBlock_tapIs_of_down h samples down ((tapIs_kept r _).silenceLimit r rfl)
    · exact placed

theorem rigMessage_tapFrozen {r q : Rig} {s : State} (bytes : List Byte) (rolling : s.tr.st = .rolling)
    (onAir : s.onAir r = true) : ((rigMessage q bytes s).tracker r).tap = (s.tracker r).tap := by
  by_cases e : r = q
  · subst e
    unfold rigMessage
    split
    · exact takeBlock_tapFrozen _ _ rolling onAir
    · split
      · exact (tapIs_kept r _).takeBeat r _ rfl
      · rfl
  · exact (tapIs_kept r _).rigMessage (tapIs_retaps e _) bytes rfl

/-! ## Commands and steps -/

theorem restartWork_idle (s : State) : (restartWork s).1.tr.st = .idle := by
  have report (u : State) (r : Rig) : (restartReport u r).tr = u.tr := by
    unfold restartReport; split <;> rfl
  simp [restartWork, Rig.all, report, restartBlocks, Transport.reset]

/-- Bytes on the desk link carry out one Command at most: until one is taken nothing changes, and from then on a Reply is
queued; only a RESTART writes the tap, and it leaves IDLE. -/
theorem received_tap {s t : State} (h : Received s t) (r : Rig) :
    (t.tr.st = .idle ∨ (t.tracker r).tap = (s.tracker r).tap) ∧
      (t.desk.replies ≠ [] ∨ (t.tracker r).tap = (s.tracker r).tap ∧ t.tr.st = s.tr.st) := by
  induction h with
  | same => exact ⟨.inr rfl, .inr ⟨rfl, rfl⟩⟩
  | receiver _ _ ih => exact ih
  | @handled t u _ k ih =>
    cases k with
    | same => exact ih
    | reply => exact ⟨ih.1, .inl (by simp [pushReply])⟩
    | @work w h empty =>
      refine ⟨?_, .inl (by simp [pushReply])⟩
      obtain ⟨tap, -⟩ := ih.2.resolve_left (not_not.2 empty)
      by_cases restart : w = restartWork
      · rw [restart]; exact .inl (restartWork_idle t)
      · exact .inr ((tapIs_kept r _).command h (fun _ _ _ => tap) (fun _ _ _ => tap) (fun e => absurd e restart) tap)

/-- Settles O11: a report that could change the tap finds it frozen, and every other write leaves it. -/
theorem tapFrozenOnAir : Obligations.TapFrozenOnAir := by
  intro c s t r rolling onAir h ends
  obtain ⟨u, effect, e⟩ := exec_effect h
  have ends : u.tr.st = .rolling := by rcases e with rfl | rfl <;> exact ends
  have done : (u.tracker r).tap = (s.tracker r).tap := by
    cases effect with
    | cold =>
      have idle : (coldStartWork s).tr.st = .idle := by unfold coldStartWork; split <;> rfl
      rw [idle] at ends
      cases ends
    | powerRemoved => rfl
    | received _ k => exact (received_tap k r).1.resolve_left (by simp [ends])
    | event _ k => exact (tapIs_kept r _).event k (fun q bytes _ => rigMessage_tapFrozen bytes rolling onAir) rfl
    | transmitEnd => rfl
  rcases e with rfl | rfl <;> exact done

end Sys2Proof.Machine
end

section
/-! SUPPORT. The step, the reset state and the settings class: R64 is with the store, the rest of chapter 10.3 here. -/

namespace Sys2Proof.Machine

/-! ## The step and the reset state -/

/-- Settles O1: the two equations of `step`. -/
theorem stepRunsFront : Obligations.StepRunsFront := by
  refine ⟨fun _ _ _ => rfl, fun s h => ?_⟩
  unfold step
  rw [h]

theorem defaultGroups_safe : GroupsSafe defaultGroups := by constructor <;> decide

theorem State.reset_tracker (r : Rig) : State.reset.tracker r = Tracker.reset := by cases r <;> rfl

theorem State.reset_port (r : Rig) : State.reset.port r = Port.reset := by cases r <;> rfl

theorem State.reset_planSafe : State.reset.PlanSafe :=
  ⟨⟨by decide, fun _ _ => rfl⟩, nofun⟩

theorem State.reset_stoppedSafe : State.reset.StoppedSafe :=
  ⟨fun _ => rfl, fun _ => rfl, fun _ => by decide⟩

theorem State.reset_serviceSafe : State.reset.ServiceSafe := by
  constructor <;> simp [State.reset]

theorem State.reset_excludedSafe : State.reset.ExcludedSafe := fun r h => by
  rw [State.reset_tracker] at h
  cases h

/-- Settles O2: each block's reset record, and each invariant at it. -/
theorem resetState : Obligations.ResetState := by
  refine ⟨⟨⟨rfl, rfl, rfl, rfl, rfl⟩, rfl, rfl, rfl, State.reset_port, fun r => ?_, ⟨rfl, rfl, rfl, rfl, rfl⟩,
    ⟨rfl, rfl, rfl, rfl⟩, rfl, rfl, rfl, rfl, rfl⟩, ⟨by decide, by decide, by decide⟩, fun r => ?_, fun r => ?_,
    ⟨by decide, nofun, List.nodup_nil⟩, defaultGroups_safe, State.reset_planSafe, State.reset_stoppedSafe,
    State.reset_serviceSafe, State.reset_excludedSafe⟩
  · rw [State.reset_tracker]
    exact ⟨rfl, rfl, rfl, rfl, rfl, rfl⟩
  · rw [State.reset_tracker]
    exact Tracker.Safe.reset
  · rw [State.reset_port]
    exact Port.Safe.reset

/-! ## Settings taken (R175, R176) -/

section

variable (x : Settings) (s : State)

@[simp] theorem State.withSettings_settings : (s.withSettings x).settings = x := by
  unfold State.withSettings
  split
  · exact ‹x = s.settings›.symm
  · rfl

@[simp] theorem State.withSettings_prefs : (s.withSettings x).prefs = s.prefs := by
  unfold State.withSettings; split <;> rfl

@[simp] theorem State.withSettings_desk : (s.withSettings x).desk = s.desk := by
  unfold State.withSettings; split <;> rfl

@[simp] theorem State.withSettings_arb : (s.withSettings x).arb = s.arb := by
  unfold State.withSettings; split <;> rfl

@[simp] theorem State.withSettings_same : s.withSettings s.settings = s := if_pos rfl

theorem takeSetting_eq (r : Result) : takeSetting x r s = (s.withSettings x, r) := by
  unfold takeSetting State.withSettings
  split
  · rfl
  · rw [markUnstored_eq]

/-- The request set and the settings are changed independently. -/
theorem State.withSettings_onRequests (f : List Request → List Request) :
    (s.onRequests f).withSettings x = { s.withSettings x with arb := { s.arb with requests := f s.arb.requests } } := by
  unfold State.withSettings
  rw [State.onRequests_settings]
  split <;> rfl

end

/-- A settings Command whose work is to take some settings, perhaps in a changed state. -/
theorem event_takeSetting {k : Byte} {w : State → State × Result} {s u : State} {x : Settings} {r : Result}
    (listening : s.Listening) (replies : u.desk.replies = []) (work : w s = takeSetting x r u) :
    event (command k .settings w) s = (u.withSettings x).answered k r (.settings x u.prefs) := by
  rw [takeSetting_eq] at work
  rw [event_command listening (by rw [work]; simpa using replies), work]
  simp

/-- A refused settings Command. -/
theorem event_settings_same {k : Byte} {w : State → State × Result} {s : State} {r : Result} (listening : s.Listening)
    (work : w s = (s, r)) : event (command k .settings w) s = s.answered k r (.settings s.settings s.prefs) :=
  event_command_same listening work

theorem clampTo_nearest {low high : Nat} (le : low ≤ high) (v : Nat) : Nearest low high v (clampTo low high v) := by
  unfold Nearest clampTo
  omega

theorem clampBeat_nearest (v : Nat) :
    (clampBeat v % 10 = 0 ∧ 50 ≤ clampBeat v ∧ clampBeat v ≤ 500) ∧ (v < 50 → clampBeat v = 50) ∧
      (500 < v → clampBeat v = 500) ∧ (50 ≤ v → v ≤ 500 → v < clampBeat v + 5 ∧ clampBeat v ≤ v + 5) := by
  unfold clampBeat clampTo
  omega

theorem clampDebounce_values (v : Nat) :
    (v ≤ 4 → clampDebounce v = 2) ∧ (5 ≤ v → v ≤ 19 → clampDebounce v = 8) ∧ (20 ≤ v → clampDebounce v = 32) := by
  unfold clampDebounce
  split
  · omega
  · split <;> omega

/-- Settles O12: each setting is `takeSetting` of its clamped value. -/
theorem rangedSettings : Obligations.RangedSettings := by
  have taken {k : Byte} {w : State → State × Result} {s : State} {x : Settings} {r : Result} (listening : s.Listening)
      (work : w s = takeSetting x r s) := event_takeSetting (k := k) listening listening.2 work
  refine ⟨fun v s h => ⟨⟨_, clampTo_nearest (by decide) v, ?_⟩, ⟨_, clampTo_nearest (by decide) v, ?_⟩,
    ⟨_, clampTo_nearest (by decide) v, ?_⟩, ⟨_, clampTo_nearest (by decide) v, ?_⟩⟩, fun v s h => ?_, fun v s h => ?_,
    fun v s h => ⟨fun running => ?_, fun stopped => ⟨_, clampTo_nearest (by decide) v, ?_⟩⟩, fun x s h => ?_⟩
  · exact congrArg _ (taken h rfl)
  · exact congrArg _ (taken h rfl)
  · exact congrArg _ (taken h rfl)
  · exact congrArg _ (taken h rfl)
  · obtain ⟨range, low, high, mid⟩ := clampBeat_nearest v
    exact ⟨_, range, low, high, mid, congrArg _ (taken h rfl)⟩
  · obtain ⟨low, mid, high⟩ := clampDebounce_values v
    exact ⟨_, low, mid, high, congrArg _ (event_takeSetting h
      (u := s.onTr fun t => { t with cueCount := if clampDebounce v = s.settings.debounce then t.cueCount else 0 }) h.2
      rfl)⟩
  · have busy : s.running = true := State.running_eq_true.2 fun k => running.elim k.1 k.2
    exact congrArg _ (event_settings_same h (if_pos busy))
  · have free : ¬s.running = true := fun k => State.running_eq_true.1 k stopped
    exact congrArg _ (taken h (if_neg free))
  · exact congrArg _ (taken h rfl)

/-! ## The arbiter's settings (R124 to R126) -/

theorem rigList_eq_some {l : List Source} {rs : List Rig} : rigList l = some rs ↔ l = rs.map Source.rig := by
  induction l generalizing rs with
  | nil => cases rs <;> simp [rigList]
  | cons a l ih =>
    cases a with
    | fallback => cases rs <;> simp [rigList]
    | rig r => cases rs <;> simp [rigList, ih, and_comm]

theorem rigList_eq_none {l : List Source} (h : Source.fallback ∈ l) : rigList l = none := by
  by_contra k
  obtain ⟨rs, e⟩ := Option.ne_none_iff_exists'.1 k
  rw [rigList_eq_some] at e
  rw [e] at h
  simp at h

theorem noRepeats_eq_true {α : Type} [DecidableEq α] {l : List α} : noRepeats l = true ↔ l.Nodup := by
  induction l with
  | nil => simp [noRepeats]
  | cons x xs ih => simp [noRepeats, ih]

/-- SET PREFERENCE, case by case (R126). -/
theorem setPreferenceWork_cases (rs : List Rig) (s : State) (len : rs.length ≤ 3) :
    setPreferenceWork (rs.map .rig) s =
      if rs.Nodup then
        if rs = s.prefs then (s, .accepted) else ({ s with prefs := rs, unstored := true, cond := s.cond.noted }, .accepted)
      else (s, .duplicate) := by
  unfold setPreferenceWork
  rw [if_neg (by simpa using len), rigList_eq_some.2 rfl]
  by_cases nodup : rs.Nodup
  · simp [noRepeats_eq_true.2 nodup, nodup, markUnstored_eq]
  · simp [Bool.eq_false_iff.2 fun h => nodup (noRepeats_eq_true.1 h), nodup]

theorem setPreferenceWork_refused {rigs : List Source} (h : 3 < rigs.length ∨ Source.fallback ∈ rigs) (s : State) :
    setPreferenceWork rigs s = (s, .badValue) := by
  unfold setPreferenceWork
  split
  · rfl
  · rw [rigList_eq_none (h.resolve_left ‹_›)]

/-- Settles O13: the three refusals and the requests that each change withdraws. -/
theorem arbiterSettings : Obligations.ArbiterSettings := by
  refine ⟨fun v s h => ⟨fun big => ?_, fun same small => ?_, fun other small => ?_⟩, fun b s h => ?_, fun rigs s h =>
    ⟨fun bad => ?_, ?_⟩⟩
  · exact congrArg _ (event_settings_same h (if_pos big))
  · exact congrArg _ (event_settings_same h ((if_neg (by omega)).trans (if_pos same)))
  · refine ⟨_, congrArg _ (event_takeSetting h
      (u := s.onRequests fun qs => qs.filter fun q => !decide (q.level ≤ 3 ∧ v ≤ q.level)) h.2
      ((if_neg (by omega)).trans (if_neg other))), fun q => ?_, ?_⟩
    · simp only [State.withSettings_arb, State.onRequests, List.mem_filter, Bool.not_eq_true', decide_eq_false_iff_not]
      refine and_congr_right fun _ => ?_
      omega
    · rw [State.withSettings_onRequests]
  · cases b with
    | true =>
      refine ⟨_, congrArg _ (event_takeSetting h h.2 rfl), fun _ => by simp, nofun, ?_⟩
      unfold State.withSettings
      split <;> rfl
    | false =>
      refine ⟨_, congrArg _ (event_takeSetting h (u := s.onRequests _) h.2 rfl), nofun, fun _ q => ?_, ?_⟩
      · simp [State.onRequests]
      · rw [State.withSettings_onRequests]
  · exact congrArg _ (event_settings_same h (setPreferenceWork_refused bad s))
  · rintro rs rfl len
    have work := setPreferenceWork_cases rs s len
    refine ⟨fun dup => ?_, fun nodup same => ?_, fun nodup other => ?_⟩
    · exact congrArg _ (event_settings_same h (work.trans (if_neg dup)))
    · exact congrArg _ (event_settings_same h (work.trans ((if_pos nodup).trans (if_pos same))))
    · have changed := work.trans ((if_pos nodup).trans (if_neg other))
      refine congrArg _ ((event_command h (by rw [changed]; exact h.2)).trans ?_)
      rw [changed]
      rfl

end Sys2Proof.Machine

end

section
/-! SUPPORT. Power, the queries and the desk port's queues (sections 1.5, 10.2, 10.4, 10.5). -/

namespace Sys2Proof.Machine

/-! ## What a row is made of -/

/-- A desk Command's row is an event behind the gate of the reply queue (R172). -/
theorem exec_gate {c : Instr} {k : Byte} (h : commandKind c = some k) :
    ∃ f, ∀ s, exec c s = .next (event (gate k f) s) := by
  cases c <;> cases h <;> exact ⟨_, fun _ => rfl⟩

/-- Without power no row but COLD_START does anything. -/
theorem exec_off {c : Instr} {s : State} (off : s.power = false) (warm : c ≠ .coldStart) : exec c s = .next s := by
  have idle (f : State → State) : Host.Outcome.next (event f s) = (.next s : Host.Outcome State Fault Refusal) :=
    congrArg _ (event_off off)
  cases c with
  | coldStart => exact absurd rfl warm
  | powerRemoved n => exact congrArg _ (if_neg (by simp [off]))
  | _ => exact idle _

/-! ## Power (R17, R19) -/

theorem coldStartWork_good {s : State} {c : Contents} (h : s.retained.contents = some c) :
    coldStartWork s = coldState c .valid false s := by
  unfold coldStartWork
  rw [h]

theorem coldStartWork_bad {s : State} (h : s.retained.contents = none) :
    coldStartWork s = raise (.storeFailed .check .invalid true) (coldState defaultContents .invalid true s) := by
  unfold coldStartWork
  rw [h]

theorem powerRemovedWork_retained (written : Nat) (s : State) :
    (powerRemovedWork written s).retained =
      match s.cond with
      | .writing c _ => c.cutCopy written
      | _ => s.retained := rfl

theorem powerRemovedWork_retained_settled {s : State} (h : s.cond.Settled) (written : Nat) :
    (powerRemovedWork written s).retained = s.retained := by
  rw [powerRemovedWork_retained]
  cases e : s.cond with
  | writing c b => exact absurd e (h c b)
  | _ => rfl

/-- A copy of which not all bytes and its check are written is no good copy (R14, R17). -/
theorem cutCopy_contents {c : Contents} {written : Nat} (h : written < c.bytes.length + 2) :
    (c.cutCopy written).contents = none := by
  rw [Contents.cutCopy, if_neg (by omega), StoredCopy.contents_eq_none]
  nofun

/-- Settles O3: the two cases of COLD_START, the three of POWER_REMOVED, and a part without power. -/
theorem powerRules : Obligations.PowerRules := by
  refine ⟨fun s => ⟨fun c good => ?_, fun bad => ?_⟩, fun written s on =>
    ⟨powerRemovedWork written s, congrArg _ (if_pos on), rfl, fun settled => powerRemovedWork_retained_settled settled _,
      fun c b cond full => ?_, fun c b cond cut => ?_, rfl⟩, fun c s off warm => exec_off off warm⟩
  · exact congrArg (fun u => Host.Outcome.next (kick u)) (coldStartWork_good good)
  · exact congrArg (fun u => Host.Outcome.next (kick u)) (coldStartWork_bad bad)
  · rw [powerRemovedWork_retained, cond]
    exact if_pos full
  · rw [powerRemovedWork_retained, cond]
    exact cutCopy_contents cut

/-! ## The queries (R177) -/

theorem engineHolder_some {ts : List Take} {e : Bool} {n : Nat} (h : engineHolder ts e = some n) :
    ∃ t ∈ ts, t.num = n ∧ t.engine = some e := by
  obtain ⟨t, found, rfl⟩ := Option.map_eq_some_iff.1 h
  exact ⟨t, List.mem_of_find?_eq_some found, rfl, by simpa using List.find?_some found⟩

theorem engineHolder_none {ts : List Take} {e : Bool} (h : engineHolder ts e = none) : ∀ t ∈ ts, t.engine ≠ some e := by
  simpa [engineHolder] using h

theorem findGroup_eq_some {gs : List Group} {g : Group} (mem : g ∈ gs) (only : ∀ h ∈ gs, h.num = g.num → h = g) :
    findGroup gs g.num = some g := by
  unfold findGroup
  cases found : gs.find? fun h => h.num == g.num with
  | none => exact absurd (List.find?_eq_none.1 found g mem) (by simp)
  | some h => rw [only h (List.mem_of_find?_eq_some found) (by simpa using List.find?_some found)]

theorem findGroup_eq_none {gs : List Group} {n : Nat} (h : ∀ g ∈ gs, g.num ≠ n) : findGroup gs n = none := by
  simpa [findGroup] using h

/-- QUERY RIG of a rig: the record with some role, that of the last Reference when one has been sent. -/
theorem queryRigWork_rig (r : Rig) (s : State) :
    ∃ role n, (∀ ref, (s.port r).lastRef = some ref → role = ref.role ∧ n = s.freeCount) ∧
      queryRigWork (.rig r) s = pushReply ⟨0x52, .accepted, .query (.rig (rigRecord s r role))⟩ { s with freeCount := n } := by
  unfold queryRigWork
  cases h : (s.port r).lastRef with
  | none => exact ⟨_, _, nofun, by simp only [Source.rig?, h]; rfl⟩
  | some ref => exact ⟨ref.role, s.freeCount, fun _ e => by cases e; exact ⟨rfl, rfl⟩, by simp only [Source.rig?, h]⟩

/-- Settles O15: each query's record. -/
theorem queryAnswers : Obligations.QueryAnswers := by
  refine ⟨fun s h => ⟨?_, ?_, ⟨_, _, ?_, fun n => engineHolder_some, engineHolder_none, fun n => engineHolder_some,
    engineHolder_none⟩, ?_⟩, fun s h => ⟨fun i e at_ => ?_, fun i beyond => ?_, fun g mem only => ?_, fun n none_ => ?_, ?_,
    fun r => ?_⟩⟩
  · exact congrArg _ (event_query_some h rfl)
  · exact congrArg _ (event_query_some h rfl)
  · exact congrArg _ (event_query_some h rfl)
  · exact congrArg _ (event_query_some h rfl)
  · exact congrArg _ (event_query_some h (by rw [at_]; rfl))
  · exact congrArg _ (event_query_none h (by rw [List.getElem?_eq_none beyond]; rfl))
  · exact congrArg _ (event_query_some h (by rw [findGroup_eq_some mem only]; rfl))
  · exact congrArg _ (event_query_none h (by rw [findGroup_eq_none none_]; rfl))
  · refine congrArg _ ((event_on h.1).trans ?_)
    rw [cmdQueryRig, gate_empty h.2]
    exact kick_pushReply _ _ _ h.2
  · obtain ⟨role, n, known, work⟩ := queryRigWork_rig r s
    refine ⟨role, n, known, congrArg _ ((event_on h.1).trans ?_)⟩
    rw [cmdQueryRig, gate_empty h.2, work]
    exact kick_pushReply _ _ _ h.2

/-! ## The desk port's queues (R172, R178, R179) -/

theorem gate_busy {k : Byte} {f : State → State} {s : State} (some_ : s.desk.replies ≠ [])
    (room : s.desk.replies.length < 16) : gate k f s = pushReply ⟨k, .busy, .none⟩ s := by
  obtain ⟨e, -⟩ | ⟨-, -, e⟩ | ⟨full, -⟩ := gate_cases k f s
  · exact absurd e some_
  · exact e
  · omega

theorem gate_full {k : Byte} {f : State → State} {s : State} (full : 16 ≤ s.desk.replies.length) : gate k f s = s := by
  obtain ⟨e, -⟩ | ⟨-, room, -⟩ | ⟨-, e⟩ := gate_cases k f s
  · simp [e] at full
  · omega
  · exact e

theorem Desk.offer_room {d : Desk} (h : d.notices.length < 32) (b : NoticeBody) (n : HouseBlock) :
    d.offer b n = { d with notices := d.notices ++ [⟨b, n, d.lost⟩], lost := false } := if_pos h

theorem Desk.offer_full {d : Desk} (h : 32 ≤ d.notices.length) (b : NoticeBody) (n : HouseBlock) :
    d.offer b n = { d with lost := true } := if_neg (Nat.not_lt.2 h)

/-- A frame that ends leaves the line idle, and a Reply leaves the queue (R172, R179). -/
theorem Desk.frameEnd_eq (d : Desk) :
    d.frameEnd = { d with line := .idle, replies := if d.line = .reply then d.replies.tail else d.replies } := by
  obtain ⟨rx, replies, notices, lost, line⟩ := d
  cases line <;> rfl

/-- Settles O16: the gate, an offered Notice, and what a line that falls idle starts. -/
theorem deskQueues : Obligations.DeskQueues := by
  refine ⟨fun c k s kind on some_ => ?_, fun b s => ⟨fun room => ?_, fun full => ?_⟩, fun s on => ?_⟩
  · obtain ⟨f, row⟩ := exec_gate kind
    rw [row, event_on on]
    exact ⟨fun room => by rw [gate_busy some_ room]; rfl, fun full => by rw [gate_full full]⟩
  · exact congrArg (fun d => { s with desk := d }) (Desk.offer_room room b s.block)
  · exact congrArg (fun d => { s with desk := d }) (Desk.offer_full full b s.block)
  · have row : exec .transmitFrameEnd s = .next { s with desk := s.desk.frameEnd.kick } := congrArg _ (event_on on)
    rw [row, Desk.frameEnd_eq]
    dsimp only
    generalize (if s.desk.line = .reply then s.desk.replies.tail else s.desk.replies) = rest
    refine ⟨fun some_ => ?_, fun none_ n ns notices => ?_, fun none_ notices => ?_⟩
    · cases rest with
      | nil => exact absurd rfl some_
      | cons r rs => rfl
    · rw [none_, notices]
      rfl
    · rw [none_, notices]
      rfl

end Sys2Proof.Machine

end

section
/-! SUPPORT. The bytes of R171 read back: which values a reader takes from the front of a byte list, and which bytes each of
them has. The stored copy is read back by the same readers (R14). -/

namespace Sys2Proof.Machine

/-! ## What a reader takes -/

/-- The reader takes exactly the allowed values, each from its own bytes. -/
def Spells {α : Type} (r : Reader α) (ok : α → Prop) (f : α → List Byte) : Prop :=
  ∀ bs x rest, r bs = some (x, rest) ↔ ok x ∧ bs = f x ++ rest

section

variable {α β : Type} {r : Reader α} {ok : α → Prop} {f : α → List Byte}

theorem Spells.read (h : Spells r ok f) {x : α} (hx : ok x) (rest : List Byte) : r (f x ++ rest) = some (x, rest) :=
  (h _ _ _).2 ⟨hx, rfl⟩

theorem Spells.whole (h : Spells r ok f) (bs : List Byte) (x : α) : readWhole r bs = some x ↔ ok x ∧ bs = f x := by
  have only : readWhole r bs = some x ↔ r bs = some (x, []) := by
    unfold readWhole
    split
    · simp [*]
    · rename_i no
      simp only [reduceCtorEq, false_iff]
      exact fun e => no _ e
  rw [only, h]
  simp

theorem Spells.fieldsOf (h : Spells r ok f) (work : α → State → State) (p : List Byte) (g : State → State) :
    fieldsOf r work p = some g ↔ ∃ x, (ok x ∧ p = f x) ∧ work x = g := by
  simp [Machine.fieldsOf, Option.map_eq_some_iff, h.whole]

/-- Another writing of the same values. -/
theorem Spells.congr (h : Spells r ok f) {ok' : α → Prop} {f' : α → List Byte} (hok : ∀ x, ok x ↔ ok' x)
    (hf : ∀ x, ok x → f x = f' x) : Spells r ok' f' := fun bs x rest => by
  rw [h, ← hok]
  exact and_congr_right fun hx => by rw [hf x hx]

theorem Spells.pair {q : Reader β} {okq : β → Prop} {g : β → List Byte} (h : Spells r ok f) (k : Spells q okq g) :
    Spells (readPair r q) (fun x => ok x.1 ∧ okq x.2) fun x => f x.1 ++ g x.2 := by
  rintro bs ⟨x, y⟩ rest
  unfold readPair
  constructor
  · intro e
    split at e
    · cases e
    · rename_i a mid ha
      obtain ⟨⟨b, rest'⟩, hb, e⟩ := Option.map_eq_some_iff.1 e
      cases e
      obtain ⟨oka, rfl⟩ := (h _ _ _).1 ha
      obtain ⟨okb, rfl⟩ := (k _ _ _).1 hb
      exact ⟨⟨oka, okb⟩, (List.append_assoc ..).symm⟩
  · rintro ⟨⟨okx, oky⟩, rfl⟩
    rw [List.append_assoc, h.read okx]
    simp [k.read oky]

theorem Spells.opt (h : Spells r ok f) : Spells (readOpt r) (fun x => ∀ y ∈ x, ok y) (optBytes f) := by
  intro bs x rest
  cases bs with
  | nil => cases x <;> simp [readOpt, optBytes]
  | cons a bs =>
    by_cases zero : a = 0#8
    · subst zero
      cases x <;> simp [readOpt, optBytes, eq_comm]
    · by_cases one : a = 1#8
      · subst one
        cases x with
        | none => simp [readOpt, optBytes]
        | some y => simp [readOpt, optBytes, h bs]
      · cases x <;> simp [readOpt, optBytes, zero, one]

theorem Spells.many (h : Spells r ok f) :
    ∀ n, Spells (readMany r n) (fun xs => xs.length = n ∧ ∀ x ∈ xs, ok x) fun xs => xs.flatMap f
  | 0 => fun bs xs rest => by
    cases xs <;> simp [readMany, eq_comm]
  | n + 1 => fun bs xs rest => by
    unfold readMany
    constructor
    · intro e
      split at e
      · cases e
      · rename_i a mid ha
        obtain ⟨⟨ys, rest'⟩, hys, e⟩ := Option.map_eq_some_iff.1 e
        cases e
        obtain ⟨oka, rfl⟩ := (h _ _ _).1 ha
        obtain ⟨⟨rfl, okys⟩, rfl⟩ := (h.many n _ _ _).1 hys
        exact ⟨⟨rfl, List.forall_mem_cons.2 ⟨oka, okys⟩⟩, by simp⟩
    · rintro ⟨⟨len, okxs⟩, rfl⟩
      cases xs with
      | nil => cases len
      | cons x xs =>
        obtain ⟨okx, okxs⟩ := List.forall_mem_cons.1 okxs
        have rest_ := (h.many n).read (x := xs) ⟨Nat.succ.inj len, okxs⟩ rest
        dsimp only at rest_ ⊢
        rw [List.flatMap_cons, List.append_assoc, h.read okx]
        dsimp only
        rw [rest_]
        rfl

end

/-! ## Numbers and choices (R171) -/

theorem fits_iff (bytes n : Nat) : fits bytes n = true ↔ n < 256 ^ bytes := decide_eq_true_iff

theorem fitsOpt_iff (bytes : Nat) (x : Option Nat) : fitsOpt bytes x = true ↔ ∀ n ∈ x, fits bytes n = true := by
  cases x <;> simp [fitsOpt]

theorem eq_ofNat_iff (a : Byte) (n : Nat) : a = BitVec.ofNat 8 n ↔ a.toNat = n % 256 := by
  rw [← BitVec.toNat_inj, BitVec.toNat_ofNat]

theorem read1_spells : Spells read1 (fun n => fits 1 n = true) num1 := by
  intro bs n rest
  cases bs with
  | nil => simp [read1, num1]
  | cons a bs =>
    simp only [read1, num1, Option.some.injEq, Prod.mk.injEq, List.singleton_append, List.cons.injEq, fits_iff,
      eq_ofNat_iff]
    have := a.isLt
    constructor
    · rintro ⟨rfl, rfl⟩
      exact ⟨this, by omega, rfl⟩
    · rintro ⟨small, e, rfl⟩
      exact ⟨by omega, rfl⟩

theorem read2_spells : Spells read2 (fun n => fits 2 n = true) num2 := by
  intro bs n rest
  match bs with
  | [] => simp [read2, num2]
  | [a] => simp [read2, num2]
  | a :: b :: bs =>
    simp only [read2, num2, be2, Option.some.injEq, Prod.mk.injEq, List.cons_append, List.nil_append, List.cons.injEq,
      fits_iff, eq_ofNat_iff]
    have := a.isLt
    have := b.isLt
    constructor
    · rintro ⟨rfl, rfl⟩
      exact ⟨by omega, by omega, by omega, rfl⟩
    · rintro ⟨small, ea, eb, rfl⟩
      exact ⟨by omega, rfl⟩

theorem read4_spells : Spells read4 (fun n => fits 4 n = true) num4 := by
  intro bs n rest
  match bs with
  | [] => simp [read4, num4]
  | [a] => simp [read4, num4]
  | [a, b] => simp [read4, num4]
  | [a, b, c] => simp [read4, num4]
  | a :: b :: c :: d :: bs =>
    simp only [read4, num4, be4, be2, Option.some.injEq, Prod.mk.injEq, List.cons_append, List.nil_append,
      List.cons.injEq, fits_iff, eq_ofNat_iff]
    have := a.isLt
    have := b.isLt
    have := c.isLt
    have := d.isLt
    constructor
    · rintro ⟨rfl, rfl⟩
      exact ⟨by omega, by omega, by omega, by omega, by omega, rfl⟩
    · rintro ⟨small, ea, eb, ec, ed, rfl⟩
      exact ⟨by omega, rfl⟩

theorem readList_spells {α : Type} {r : Reader α} {ok : α → Prop} {f : α → List Byte} (h : Spells r ok f) :
    Spells (readList r) (fun xs => fits 1 xs.length = true ∧ ∀ x ∈ xs, ok x) (listBytes f) := by
  intro bs xs rest
  cases bs with
  | nil => simp [readList, listBytes, num1]
  | cons a bs =>
    simp only [readList, h.many a.toNat bs, listBytes, num1, List.cons_append, List.nil_append, List.cons.injEq, fits_iff,
      eq_ofNat_iff]
    have := a.isLt
    constructor
    · rintro ⟨⟨len, okxs⟩, rfl⟩
      exact ⟨⟨by omega, okxs⟩, by omega, rfl⟩
    · rintro ⟨⟨small, okxs⟩, e, rfl⟩
      exact ⟨⟨by omega, okxs⟩, rfl⟩

/-- A choice byte names its value by its place in the list. -/
theorem readChoice_spells {α : Type} {vs : List α} {byte : α → Byte}
    (h : ∀ x (a : Byte), vs[a.toNat]? = some x ↔ a = byte x) :
    Spells (readChoice vs) (fun _ => True) fun x => [byte x] := by
  intro bs x rest
  cases bs with
  | nil => simp [readChoice]
  | cons a bs => simp [readChoice, h]

theorem readSource_spells : Spells readSource (fun _ => True) fun x => [x.byte] :=
  readChoice_spells fun x => by rcases x with (_ | _ | _) | _ <;> decide

theorem readRig_spells : Spells readRig (fun _ => True) fun x => [x.byte] :=
  readChoice_spells fun x => by cases x <;> decide

theorem readEndAction_spells : Spells (readChoice [EndAction.next, EndAction.park]) (fun _ => True) fun x => [x.byte] :=
  readChoice_spells fun x => by cases x <;> decide

theorem readOnOff_spells : Spells readOnOff (fun _ => True) fun x => [onOffByte x] :=
  readChoice_spells fun x => by cases x <;> decide

theorem readGroupKind_spells : Spells (readChoice [GroupKind.blend, GroupKind.cut]) (fun _ => True) fun x => [x.byte] :=
  readChoice_spells fun x => by cases x <;> decide

theorem readFallbackKind_spells :
    Spells (readChoice [FallbackKind.silence, FallbackKind.click]) (fun _ => True) fun x => [x.byte] :=
  readChoice_spells fun x => by cases x <;> decide

theorem readFollowKind_spells :
    Spells (readChoice [FollowKind.follow, FollowKind.pinned]) (fun _ => True) fun x => [x.byte] :=
  readChoice_spells fun x => by cases x <;> decide

theorem triggersByte_iff (a : Byte) (t : Triggers) :
    (a.toNat < 16 ∧ Triggers.mk (a.getLsbD 0) (a.getLsbD 1) (a.getLsbD 2) (a.getLsbD 3) = t) ↔ a = t.byte := by
  obtain ⟨w, x, y, z⟩ := t
  revert a
  cases w <;> cases x <;> cases y <;> cases z <;> decide

theorem readTriggers_spells : Spells readTriggers (fun _ => True) fun x => [x.byte] := by
  intro bs t rest
  cases bs with
  | nil => simp [readTriggers]
  | cons a bs =>
    have byte := triggersByte_iff a t
    unfold readTriggers
    dsimp only
    by_cases small : a.toNat < 16
    · rw [if_pos small]
      simp only [small, true_and] at byte
      simp only [Option.some.injEq, Prod.mk.injEq, List.cons_append, List.nil_append, List.cons.injEq, byte, true_and]
    · rw [if_neg small]
      simp only [small, false_and, false_iff] at byte
      simp [byte]

/-! ## Segment entries, group definitions, settings -/

theorem readTc_spells : Spells readTc (fun v => v.wellFormed = true) tcBytes := by
  rintro bs ⟨h, m, s, f⟩ rest
  simp only [readTc, Option.bind_eq_bind, Option.bind_eq_some_iff, Prod.exists, read1_spells _ _ _, Option.pure_def,
    Option.some.injEq, Prod.mk.injEq, TcValue.mk.injEq, TcValue.wellFormed, Bool.and_eq_true, tcBytes,
    List.append_assoc]
  aesop

/-- The bytes of a vamp part's three fields. -/
def vampPartBytes (v : Nat × Nat × Option Nat) : List Byte := num4 v.1 ++ num4 v.2.1 ++ optBytes num1 v.2.2

/-- The bytes of a tempo part's three fields. -/
def tempoPartBytes (t : Nat × Nat × Nat) : List Byte := num2 t.1 ++ num1 t.2.1 ++ num4 t.2.2

/-- The bytes of a timecode part's two fields. -/
def timecodePartBytes (c : TcValue × Nat) : List Byte := tcBytes c.1 ++ num1 c.2

theorem readVamp_spells :
    Spells readVamp (fun v => fits 4 v.1 = true ∧ fits 4 v.2.1 = true ∧ fitsOpt 1 v.2.2 = true)
      vampPartBytes := by
  rintro bs ⟨i, o, p⟩ rest
  simp only [readVamp, Option.bind_eq_bind, Option.bind_eq_some_iff, Prod.exists, read4_spells _ _ _,
    read1_spells.opt _ _ _, ← fitsOpt_iff, Option.pure_def, Option.some.injEq, Prod.mk.injEq, List.append_assoc,
    vampPartBytes]
  aesop

theorem readTempo_spells :
    Spells readTempo (fun t => fits 2 t.1 = true ∧ fits 1 t.2.1 = true ∧ fits 4 t.2.2 = true)
      tempoPartBytes := by
  rintro bs ⟨t, b, d⟩ rest
  simp only [readTempo, Option.bind_eq_bind, Option.bind_eq_some_iff, Prod.exists, read4_spells _ _ _,
    read2_spells _ _ _, read1_spells _ _ _, Option.pure_def, Option.some.injEq, Prod.mk.injEq, List.append_assoc,
    tempoPartBytes]
  aesop

theorem readTcPart_spells :
    Spells readTcPart (fun t => t.1.wellFormed = true ∧ fits 1 t.2 = true) timecodePartBytes := by
  rintro bs ⟨v, r⟩ rest
  simp only [readTcPart, Option.bind_eq_bind, Option.bind_eq_some_iff, Prod.exists, readTc_spells _ _ _,
    read1_spells _ _ _, Option.pure_def, Option.some.injEq, Prod.mk.injEq, List.append_assoc, timecodePartBytes]
  aesop

theorem readGroupDef_spells : Spells readGroupDef (fun d => d.wellFormed = true) groupDefBytes := by
  rintro bs ⟨first, last, kind, fallback, mode⟩ rest
  simp only [readGroupDef, Option.bind_eq_bind, Option.bind_eq_some_iff, Prod.exists, read1_spells _ _ _,
    readGroupKind_spells _ _ _, readFallbackKind_spells _ _ _, readFollowKind_spells _ _ _, Option.pure_def,
    Option.some.injEq, Prod.mk.injEq, GroupDef.mk.injEq, GroupDef.wellFormed, Bool.and_eq_true, groupDefBytes,
    List.append_assoc, true_and]
  aesop

/-- A segment entry's fields as its three parts, each whole or absent. -/
def partedFields (code length : Nat) (e : EndAction) (v : Option (Nat × Nat × Option Nat)) (t : Option (Nat × Nat × Nat))
    (c : Option (TcValue × Nat)) : EntryFields where
  code := code
  length := length
  endAction := e
  vampIn := v.map (·.1)
  vampOut := v.map (·.2.1)
  passLimit := v.bind (·.2.2)
  tempo := t.map (·.1)
  beats := t.map (·.2.1)
  downbeat := t.map (·.2.2)
  tcStart := c.map (·.1)
  tcRate := c.map (·.2)

section

variable (code length : Nat) (e : EndAction) (v : Option (Nat × Nat × Option Nat)) (t : Option (Nat × Nat × Nat))
  (c : Option (TcValue × Nat))

theorem partedFields_bytes : entryFieldsBytes (partedFields code length e v t c) =
    some (num2 code ++ num4 length ++ [e.byte] ++ optBytes vampPartBytes v ++ optBytes tempoPartBytes t ++
      optBytes timecodePartBytes c) := by
  have hv : vampBytes (partedFields code length e v t c) = some (optBytes vampPartBytes v) := by cases v <;> rfl
  have ht : tempoBytes (partedFields code length e v t c) = some (optBytes tempoPartBytes t) := by cases t <;> rfl
  have hc : tcPartBytes (partedFields code length e v t c) = some (optBytes timecodePartBytes c) := by cases c <;> rfl
  rw [entryFieldsBytes, hv, ht, hc]
  rfl

theorem partedFields_wellFormed : (partedFields code length e v t c).wellFormed = true ↔
    fits 2 code = true ∧ fits 4 length = true ∧
      (∀ y ∈ v, fits 4 y.1 = true ∧ fits 4 y.2.1 = true ∧ fitsOpt 1 y.2.2 = true) ∧
      (∀ y ∈ t, fits 2 y.1 = true ∧ fits 1 y.2.1 = true ∧ fits 4 y.2.2 = true) ∧
      ∀ y ∈ c, y.1.wellFormed = true ∧ fits 1 y.2 = true := by
  cases v <;> cases t <;> cases c <;> simp [partedFields, EntryFields.wellFormed, fitsOpt, and_assoc]

end

/-- Fields that have bytes have whole or absent parts. -/
theorem partedFields_of_bytes {f : EntryFields} {bs : List Byte} (h : entryFieldsBytes f = some bs) :
    ∃ v t c, f = partedFields f.code f.length f.endAction v t c := by
  obtain ⟨code, length, e, vi, vo, pl, tempo, beats, downbeat, tcStart, tcRate⟩ := f
  unfold entryFieldsBytes at h
  split at h
  · rename_i hv ht hc
    have v : ∃ v : Option (Nat × Nat × Option Nat), vi = v.map (·.1) ∧ vo = v.map (·.2.1) ∧ pl = v.bind (·.2.2) := by
      cases vi with
      | none => cases vo <;> cases pl <;> first | exact ⟨none, rfl, rfl, rfl⟩ | cases hv
      | some i => cases vo with
        | none => cases hv
        | some o => exact ⟨some (i, o, pl), rfl, rfl, rfl⟩
    have t : ∃ t : Option (Nat × Nat × Nat), tempo = t.map (·.1) ∧ beats = t.map (·.2.1) ∧ downbeat = t.map (·.2.2) := by
      cases tempo with
      | none => cases beats <;> cases downbeat <;> first | exact ⟨none, rfl, rfl, rfl⟩ | cases ht
      | some a => cases beats with
        | none => cases ht
        | some b => cases downbeat with
          | none => cases ht
          | some d => exact ⟨some (a, b, d), rfl, rfl, rfl⟩
    have c : ∃ c : Option (TcValue × Nat), tcStart = c.map (·.1) ∧ tcRate = c.map (·.2) := by
      cases tcStart with
      | none => cases tcRate <;> first | exact ⟨none, rfl, rfl⟩ | cases hc
      | some a => cases tcRate with
        | none => cases hc
        | some r => exact ⟨some (a, r), rfl, rfl⟩
    obtain ⟨v, rfl, rfl, rfl⟩ := v
    obtain ⟨t, rfl, rfl, rfl⟩ := t
    obtain ⟨c, rfl, rfl⟩ := c
    exact ⟨v, t, c, rfl⟩
  · cases h

/-- Which bytes a segment entry's fields are read from, part by part. -/
theorem readEntry_eq_some (bs : List Byte) (f : EntryFields) (rest : List Byte) : readEntry bs = some (f, rest) ↔
    ∃ code length e v t c, f = partedFields code length e v t c ∧ f.wellFormed = true ∧
      bs = num2 code ++ num4 length ++ [e.byte] ++ optBytes vampPartBytes v ++ optBytes tempoPartBytes t ++
        optBytes timecodePartBytes c ++ rest := by
  simp only [readEntry, Option.bind_eq_bind, Option.bind_eq_some_iff, Prod.exists, read2_spells _ _ _, read4_spells _ _ _,
    readEndAction_spells _ _ _, readVamp_spells.opt _ _ _, readTempo_spells.opt _ _ _, readTcPart_spells.opt _ _ _,
    Option.pure_def, Option.some.injEq, Prod.mk.injEq, true_and]
  constructor
  · rintro ⟨code, _, ⟨hcode, rfl⟩, length, _, ⟨hlength, rfl⟩, e, _, rfl, v, _, ⟨hv, rfl⟩, t, _, ⟨ht, rfl⟩, c, _, ⟨hc, rfl⟩,
      rfl, rfl⟩
    refine ⟨code, length, e, v, t, c, rfl, (partedFields_wellFormed ..).2 ⟨hcode, hlength, hv, ht, hc⟩, ?_⟩
    simp only [List.append_assoc]
  · rintro ⟨code, length, e, v, t, c, rfl, ok, rfl⟩
    obtain ⟨hcode, hlength, hv, ht, hc⟩ := (partedFields_wellFormed ..).1 ok
    refine ⟨code, _, ⟨hcode, ?_⟩, length, _, ⟨hlength, rfl⟩, e, _, rfl, v, _, ⟨hv, rfl⟩, t, _, ⟨ht, rfl⟩, c, _, ⟨hc, rfl⟩,
      rfl, rfl⟩
    simp only [List.append_assoc]

theorem readEntry_spells :
    Spells readEntry (fun f => f.wellFormed = true ∧ (entryFieldsBytes f).isSome = true)
      fun f => (entryFieldsBytes f).getD [] := by
  intro bs f rest
  rw [readEntry_eq_some]
  constructor
  · rintro ⟨code, length, e, v, t, c, rfl, ok, rfl⟩
    have bytes := partedFields_bytes code length e v t c
    exact ⟨⟨ok, by rw [bytes]; rfl⟩, by dsimp only; rw [bytes]; rfl⟩
  · rintro ⟨⟨ok, whole⟩, rfl⟩
    obtain ⟨b, hb⟩ := Option.isSome_iff_exists.1 whole
    obtain ⟨v, t, c, parts⟩ := partedFields_of_bytes hb
    refine ⟨_, _, _, v, t, c, parts, ok, ?_⟩
    have bytes := partedFields_bytes f.code f.length f.endAction v t c
    rw [← parts] at bytes
    dsimp only
    rw [bytes]
    rfl

end Sys2Proof.Machine

end

section
/-! SUPPORT. The stored copy read back (R13, R14). -/

namespace Sys2Proof.Machine

theorem fields_eq_parted (e : SegmentEntry) : e.fields = partedFields e.code e.length e.endAction
    (e.vamp.map fun v => (v.vampIn, v.vampOut, v.passLimit)) (e.tempo.map fun t => (t.tempo, t.beats, t.downbeat))
    (e.timecode.map fun c => (c.start, c.rate)) := by
  obtain ⟨code, length, endAction, v, t, c⟩ := e
  cases v <;> cases t <;> cases c <;> rfl

/-- A stored entry's bytes are those of its fields. -/
theorem entryFieldsBytes_fields (e : SegmentEntry) : entryFieldsBytes e.fields = some e.bytes := by
  rw [fields_eq_parted, partedFields_bytes]
  obtain ⟨code, length, endAction, v, t, c⟩ := e
  cases v <;> cases t <;> cases c <;> rfl

/-- Valid fields fit their bytes. -/
theorem wellFormed_of_valid {f : EntryFields} (h : f.Valid) : f.wellFormed = true := by
  obtain ⟨-, code, -, length, vamp, tempo, timecode⟩ := h
  have hv : fitsOpt 4 f.vampIn = true ∧ fitsOpt 4 f.vampOut = true ∧ fitsOpt 1 f.passLimit = true := by
    obtain ⟨hi, ho, hp⟩ | ⟨i, o, hi, ho, lt, le, -, limit⟩ := vamp
    · rw [hi, ho, hp]
      exact ⟨rfl, rfl, rfl⟩
    · simp only [fitsOpt_iff, fits_iff, hi, ho, Option.mem_def, Option.some.injEq, forall_eq']
      exact ⟨by omega, by omega, fun n hn => by have := limit n hn; omega⟩
  have ht : fitsOpt 2 f.tempo = true ∧ fitsOpt 1 f.beats = true ∧ fitsOpt 4 f.downbeat = true := by
    obtain ⟨ht, hb, hd⟩ | ⟨t, b, d, ht, hb, hd, -, tle, -, ble, dlt⟩ := tempo
    · rw [ht, hb, hd]
      exact ⟨rfl, rfl, rfl⟩
    · simp only [fitsOpt_iff, fits_iff, ht, hb, hd, Option.mem_def, Option.some.injEq, forall_eq']
      exact ⟨by omega, by omega, by omega⟩
  have hc : f.tcStart.all TcValue.wellFormed = true ∧ fitsOpt 1 f.tcRate = true := by
    obtain ⟨hv, hr⟩ | ⟨v, r, hv, hr, rate, hours, minutes, seconds, frames⟩ := timecode
    · rw [hv, hr]
      exact ⟨rfl, rfl⟩
    · rw [hv, hr]
      simp only [Option.all_some, TcValue.wellFormed, Bool.and_eq_true, fitsOpt, fits_iff]
      omega
  unfold EntryFields.wellFormed
  simp only [Bool.and_eq_true, fits_iff, hv, ht, hc, and_true]
  omega

theorem readStoredEntry_spells :
    Spells readStoredEntry (fun e => e.fields.wellFormed = true ∧ e.ok = true) SegmentEntry.bytes := by
  intro bs e rest
  simp only [readStoredEntry, Option.bind_eq_bind, Option.bind_eq_some_iff, Prod.exists, readEntry_spells _ _ _,
    Option.pure_def, Option.some.injEq, Prod.mk.injEq]
  constructor
  · rintro ⟨f, _, ⟨⟨fit, -⟩, rfl⟩, _, checked, rfl, rfl⟩
    have fields := fields_of_checkEntry checked
    subst fields
    exact ⟨⟨fit, by simp [SegmentEntry.ok, checked]⟩, by rw [entryFieldsBytes_fields]; rfl⟩
  · rintro ⟨⟨fit, ok⟩, rfl⟩
    refine ⟨e.fields, rest, ⟨⟨fit, ?_⟩, ?_⟩, e, by simpa [SegmentEntry.ok] using ok, rfl, rfl⟩ <;>
      rw [entryFieldsBytes_fields] <;> rfl

theorem readStoredGroup_spells :
    Spells readStoredGroup (fun g => fits 1 g.1 = true ∧ g.2.wellFormed = true) storedGroupBytes := by
  rintro bs ⟨n, d⟩ rest
  simp only [readStoredGroup, Option.bind_eq_bind, Option.bind_eq_some_iff, Prod.exists, read1_spells _ _ _,
    readGroupDef_spells _ _ _, Option.pure_def, Option.some.injEq, Prod.mk.injEq, storedGroupBytes, List.append_assoc]
  aesop

theorem rateOf_frames (r : Rate) : rateOf r.frames = some r := by cases r <;> rfl

/-- The settings within R19's ranges are read back. -/
theorem readSettings_bytes {s : Settings} (h : s.ok = true) (rest : List Byte) :
    readSettings (s.bytes ++ rest) = some (s, rest) := by
  have r1 {n : Nat} (hn : n < 256) (rest : List Byte) : read1 (num1 n ++ rest) = some (n, rest) :=
    read1_spells.read ((fits_iff 1 n).2 hn) rest
  have r2 {n : Nat} (hn : n < 65536) (rest : List Byte) : read2 (num2 n ++ rest) = some (n, rest) :=
    read2_spells.read ((fits_iff 2 n).2 hn) rest
  have r4 (rest : List Byte) : read4 (num4 s.rate.frames ++ rest) = some (s.rate.frames, rest) :=
    read4_spells.read ((fits_iff 4 _).2 (by cases s.rate <;> decide)) rest
  have rt (rest : List Byte) := readTriggers_spells.read (x := s.triggers) trivial rest
  have ro (rest : List Byte) := readOnOff_spells.read (x := s.recover) trivial rest
  simp only [Settings.ok, decide_eq_true_eq] at h
  obtain ⟨-, lead, debounce, -, verify, slip, -, beat, -, threshold, -, blend, -, settle⟩ := h
  unfold readSettings Settings.bytes
  simp only [List.append_assoc, Option.bind_eq_bind, Option.pure_def]
  rw [r4, Option.bind_some, rateOf_frames, Option.bind_some, r1 (by omega), Option.bind_some, r1 (by omega),
    Option.bind_some, rt, Option.bind_some, r1 (by omega), Option.bind_some, r1 (by omega), Option.bind_some,
    r2 (by omega), Option.bind_some, r1 (by omega), Option.bind_some, ro, Option.bind_some, r1 (by omega),
    Option.bind_some, r2 (by omega), Option.bind_some]

theorem length_le_of_nodup_subset {α : Type} {l m : List α} (nodup : l.Nodup) (sub : ∀ x ∈ l, x ∈ m) :
    l.length ≤ m.length := (nodup.subperm sub).length_le

/-- Contents that a store operation can have copied are read back whole. -/
theorem readContents_bytes {c : Contents} (h : c.ok = true) : readContents c.bytes = some (c, []) := by
  simp only [Contents.ok, Bool.and_eq_true, decide_eq_true_eq, List.all_eq_true, groupDefsOk] at h
  obtain ⟨⟨⟨⟨⟨entries, entry⟩, -⟩, ⟨-, group⟩, apart⟩, prefs⟩, settings⟩ := h
  have nums : (c.groups.map (·.1)).Nodup := List.pairwise_map.2 (apart.imp fun h => Nat.ne_of_lt h.1)
  have groups : c.groups.length ≤ 9 := by
    have := length_le_of_nodup_subset nums (m := List.range 9) fun n hn => by
      obtain ⟨g, hg, rfl⟩ := List.mem_map.1 hn
      have := group g hg
      simp only [List.mem_range]
      omega
    simpa using this
  have rigs : c.prefs.length ≤ 3 :=
    length_le_of_nodup_subset (nodup_of_noRepeats prefs) (m := [.A, .B, .C]) fun r _ => by cases r <;> simp
  have setListRead := (readList_spells readStoredEntry_spells).read (x := c.setList)
    ⟨(fits_iff 1 _).2 (by simp only [Config.maxEntries] at entries; omega), fun e he => by
      have checked : checkEntry e.fields = some e := by simpa [SegmentEntry.ok] using entry e he
      exact ⟨wellFormed_of_valid (valid_of_checkEntry checked), entry e he⟩⟩
  have groupsRead := (readList_spells readStoredGroup_spells).read (x := c.groups)
    ⟨(fits_iff 1 _).2 (by omega), fun g hg => by
      have ⟨num, range⟩ := group g hg
      simp only [GroupDef.inRange, decide_eq_true_eq] at range
      simp only [GroupDef.wellFormed, Bool.and_eq_true, fits_iff]
      omega⟩
  have prefsRead := (readList_spells readRig_spells).read (x := c.prefs)
    ⟨(fits_iff 1 _).2 (by omega), fun _ _ => trivial⟩
  have settingsRead := readSettings_bytes settings []
  rw [List.append_nil] at settingsRead
  simp only [readContents, Contents.bytes, prefsBytes, List.append_assoc, setListRead, groupsRead, prefsRead, settingsRead,
    Option.bind_eq_bind, Option.bind_some, Option.pure_def]

/-- Settles O25: the copy's two checks agree, and its bytes are read back. -/
theorem storeRoundTrip : Obligations.StoreRoundTrip := by
  intro c ok
  have whole : readWhole readContents c.bytes = some c := by
    unfold readWhole
    rw [readContents_bytes ok]
  have shown : readShow c.bytes = some c := by
    rw [readShow, whole, Option.filter_some, if_pos ok]
  exact (if_pos rfl).trans (congrArg some (readGood_of_readShow shown))

end Sys2Proof.Machine

end

section
/-! SUPPORT. The frames of the desk link (section 10.1): the Command that a kind and a payload spell, a whole frame, and what
the receiver does with bytes that hold none. -/

namespace Sys2Proof.Machine

/-! ## Kinds and payloads (R170, R171, R175, R177) -/

theorem noFields_iff {work g : State → State} {p : List Byte} : noFields work p = some g ↔ p = [] ∧ work = g := by
  cases p <;> simp [noFields]

/-- The frame of a Command that a sender can send is decoded to the Command's row. -/
theorem decodeCommand_of_spelled {c : Instr} {k : Byte} {p : List Byte} (wf : c.wellFormed = true)
    (kind : commandKind c = some k) (payload : commandPayload c = some p) :
    ∃ f, decodeCommand k p = some f ∧ ∀ s, exec c s = .next (event f s) := by
  have fields {α : Type} {r : Reader α} {ok : α → Prop} {w : α → List Byte} (spells : Spells r ok w)
      (work : α → State → State) {x : α} (hx : ok x) : fieldsOf r work (w x) = some (work x) :=
    (spells.fieldsOf work _ _).2 ⟨x, ⟨hx, rfl⟩, rfl⟩
  have number (work : Nat → State → State) {n : Nat} (hn : fits 1 n = true) := fields read1_spells work hn
  have rig (work : Source → State → State) (x : Source) := fields readSource_spells work (x := x) trivial
  cases c with
  | setEntry index f =>
    simp only [Instr.wellFormed, Bool.and_eq_true] at wf
    cases kind
    obtain ⟨b, hb, rfl⟩ := Option.map_eq_some_iff.1 payload
    have e := fields (read1_spells.pair readEntry_spells) (fun x => cmdSetEntry x.1 x.2) (x := (index, f))
      ⟨wf.1, wf.2, by rw [hb]; rfl⟩
    simp only [hb, Option.getD_some] at e
    exact ⟨_, e, fun _ => rfl⟩
  | dropEntry index => cases kind; cases payload; exact ⟨_, number cmdDropEntry wf, fun _ => rfl⟩
  | locate index offset =>
    simp only [Instr.wellFormed, Bool.and_eq_true, fitsOpt_iff] at wf
    cases kind; cases payload
    exact ⟨_, fields (read1_spells.pair read4_spells.opt) (fun x => cmdLocate x.1 x.2) (x := (index, offset)) wf,
      fun _ => rfl⟩
  | take src groups =>
    simp only [Instr.wellFormed, Bool.and_eq_true, List.all_eq_true] at wf
    cases kind; cases payload
    exact ⟨_, fields (readSource_spells.pair (readList_spells read1_spells)) (fun x => cmdTake x.1 x.2)
      (x := (src, groups)) ⟨trivial, wf⟩, fun _ => rfl⟩
  | exclude src => cases kind; cases payload; exact ⟨_, rig cmdExclude src, fun _ => rfl⟩
  | admitRig src => cases kind; cases payload; exact ⟨_, rig cmdAdmit src, fun _ => rfl⟩
  | setGroup number_ definition =>
    simp only [Instr.wellFormed, Bool.and_eq_true, Option.all_eq_true] at wf
    cases kind; cases payload
    exact ⟨_, fields (read1_spells.pair readGroupDef_spells.opt) (fun x => cmdSetGroup x.1 x.2)
      (x := (number_, definition)) wf, fun _ => rfl⟩
  | setRate v => cases kind; cases payload; exact ⟨_, fields read4_spells cmdSetRate wf, fun _ => rfl⟩
  | setLead v => cases kind; cases payload; exact ⟨_, number cmdSetLead wf, fun _ => rfl⟩
  | setDebounce v => cases kind; cases payload; exact ⟨_, number cmdSetDebounce wf, fun _ => rfl⟩
  | setTriggers v => cases kind; cases payload; exact ⟨_, fields readTriggers_spells cmdSetTriggers trivial, fun _ => rfl⟩
  | setVerify v => cases kind; cases payload; exact ⟨_, number cmdSetVerify wf, fun _ => rfl⟩
  | setSlipWindow v => cases kind; cases payload; exact ⟨_, number cmdSetSlipWindow wf, fun _ => rfl⟩
  | setBeatInterval v => cases kind; cases payload; exact ⟨_, fields read2_spells cmdSetBeatInterval wf, fun _ => rfl⟩
  | setThreshold v => cases kind; cases payload; exact ⟨_, number cmdSetThreshold wf, fun _ => rfl⟩
  | setRecover v => cases kind; cases payload; exact ⟨_, fields readOnOff_spells cmdSetRecover trivial, fun _ => rfl⟩
  | setBlend v => cases kind; cases payload; exact ⟨_, number cmdSetBlend wf, fun _ => rfl⟩
  | setSettle v => cases kind; cases payload; exact ⟨_, fields read2_spells cmdSetSettle wf, fun _ => rfl⟩
  | setPreference rigs =>
    cases kind; cases payload
    exact ⟨_, fields (readList_spells readSource_spells) cmdSetPreference ⟨wf, fun _ _ => trivial⟩, fun _ => rfl⟩
  | queryEntry index => cases kind; cases payload; exact ⟨_, number cmdQueryEntry wf, fun _ => rfl⟩
  | queryGroup n => cases kind; cases payload; exact ⟨_, number cmdQueryGroup wf, fun _ => rfl⟩
  | queryRig src => cases kind; cases payload; exact ⟨_, rig cmdQueryRig src, fun _ => rfl⟩
  | clearSet | storeShow | recallShow | arm | disarm | go | halt | home | release | restart | queryTransport
  | queryArbiter | queryTakes | querySettings => cases kind; cases payload; exact ⟨_, rfl, fun _ => rfl⟩
  | _ => cases kind

/-- A frame that is decoded is that of a Command that a sender can send. -/
def Spelled (k : Byte) (p : List Byte) : Prop :=
  ∃ c : Instr, c.wellFormed = true ∧ commandKind c = some k ∧ commandPayload c = some p

theorem spelled_of_noFields {n : Nat} {k : Byte} {p : List Byte} {work g : State → State} (c : Instr) {kc : Byte}
    (h : noFields work p = some g) (kn : k.toNat = n) (wf : c.wellFormed = true) (kind : commandKind c = some kc)
    (byte : kc.toNat = n) (payload : commandPayload c = some []) : Spelled k p := by
  obtain ⟨rfl, -⟩ := noFields_iff.1 h
  exact ⟨c, wf, by rw [kind, BitVec.eq_of_toNat_eq (kn.trans byte.symm)], payload⟩

theorem spelled_of_fields {n : Nat} {k : Byte} {p : List Byte} {α : Type} {r : Reader α} {ok : α → Prop}
    {w : α → List Byte} {work : α → State → State} {g : State → State} (spells : Spells r ok w) (c : α → Instr) {kc : Byte}
    (h : fieldsOf r work p = some g) (kn : k.toNat = n) (kind : ∀ x, commandKind (c x) = some kc) (byte : kc.toNat = n)
    (wf : ∀ x, ok x → (c x).wellFormed = true ∧ commandPayload (c x) = some (w x)) : Spelled k p := by
  obtain ⟨x, ⟨okx, rfl⟩, -⟩ := (spells.fieldsOf work p g).1 h
  obtain ⟨wellFormed, payload⟩ := wf x okx
  exact ⟨c x, wellFormed, by rw [kind, BitVec.eq_of_toNat_eq (kn.trans byte.symm)], payload⟩

theorem setListCommand_spelled {k : Byte} {p : List Byte} {g : State → State}
    (h : setListCommand k.toNat p = some g) : Spelled k p := by
  unfold setListCommand at h
  split at h
  · refine spelled_of_fields (read1_spells.pair readEntry_spells) (fun x => .setEntry x.1 x.2) h ‹_› (fun _ => rfl) rfl
      fun x ⟨index, entry, whole⟩ => ⟨by simp [Instr.wellFormed, index, entry], ?_⟩
    obtain ⟨b, hb⟩ := Option.isSome_iff_exists.1 whole
    simp [commandPayload, hb]
  · exact spelled_of_fields read1_spells .dropEntry h ‹_› (fun _ => rfl) rfl fun _ ok => ⟨ok, rfl⟩
  · exact spelled_of_noFields .clearSet h ‹_› rfl rfl rfl rfl
  · exact spelled_of_noFields .storeShow h ‹_› rfl rfl rfl rfl
  · exact spelled_of_noFields .recallShow h ‹_› rfl rfl rfl rfl
  · cases h

theorem transportCommand_spelled {k : Byte} {p : List Byte} {g : State → State}
    (h : transportCommand k.toNat p = some g) : Spelled k p := by
  unfold transportCommand at h
  split at h
  · exact spelled_of_noFields .arm h ‹_› rfl rfl rfl rfl
  · exact spelled_of_noFields .disarm h ‹_› rfl rfl rfl rfl
  · exact spelled_of_noFields .go h ‹_› rfl rfl rfl rfl
  · exact spelled_of_noFields .halt h ‹_› rfl rfl rfl rfl
  · exact spelled_of_fields (read1_spells.pair read4_spells.opt) (fun x => .locate x.1 x.2) h ‹_› (fun _ => rfl) rfl
      fun x ok => ⟨by simpa only [Instr.wellFormed, Bool.and_eq_true, fitsOpt_iff] using ok, rfl⟩
  · exact spelled_of_noFields .home h ‹_› rfl rfl rfl rfl
  · exact spelled_of_noFields .release h ‹_› rfl rfl rfl rfl
  · exact spelled_of_noFields .restart h ‹_› rfl rfl rfl rfl
  · cases h

theorem sourceCommand_spelled {k : Byte} {p : List Byte} {g : State → State}
    (h : sourceCommand k.toNat p = some g) : Spelled k p := by
  unfold sourceCommand at h
  split at h
  · exact spelled_of_fields (readSource_spells.pair (readList_spells read1_spells)) (fun x => .take x.1 x.2) h ‹_›
      (fun _ => rfl) rfl fun x ⟨_, ok⟩ =>
        ⟨by simpa only [Instr.wellFormed, Bool.and_eq_true, List.all_eq_true] using ok, rfl⟩
  · exact spelled_of_fields readSource_spells .exclude h ‹_› (fun _ => rfl) rfl fun _ _ => ⟨rfl, rfl⟩
  · exact spelled_of_fields readSource_spells .admitRig h ‹_› (fun _ => rfl) rfl fun _ _ => ⟨rfl, rfl⟩
  · exact spelled_of_fields (read1_spells.pair readGroupDef_spells.opt) (fun x => .setGroup x.1 x.2) h ‹_› (fun _ => rfl)
      rfl fun x ok => ⟨by simpa only [Instr.wellFormed, Bool.and_eq_true, Option.all_eq_true, Option.mem_def] using ok, rfl⟩
  · cases h

theorem settingsCommand_spelled {k : Byte} {p : List Byte} {g : State → State}
    (h : settingsCommand k.toNat p = some g) : Spelled k p := by
  unfold settingsCommand at h
  split at h
  · exact spelled_of_fields read4_spells .setRate h ‹_› (fun _ => rfl) rfl fun _ ok => ⟨ok, rfl⟩
  · exact spelled_of_fields read1_spells .setLead h ‹_› (fun _ => rfl) rfl fun _ ok => ⟨ok, rfl⟩
  · exact spelled_of_fields read1_spells .setDebounce h ‹_› (fun _ => rfl) rfl fun _ ok => ⟨ok, rfl⟩
  · exact spelled_of_fields readTriggers_spells .setTriggers h ‹_› (fun _ => rfl) rfl fun _ _ => ⟨rfl, rfl⟩
  · exact spelled_of_fields read1_spells .setVerify h ‹_› (fun _ => rfl) rfl fun _ ok => ⟨ok, rfl⟩
  · exact spelled_of_fields read1_spells .setSlipWindow h ‹_› (fun _ => rfl) rfl fun _ ok => ⟨ok, rfl⟩
  · exact spelled_of_fields read2_spells .setBeatInterval h ‹_› (fun _ => rfl) rfl fun _ ok => ⟨ok, rfl⟩
  · exact spelled_of_fields read1_spells .setThreshold h ‹_› (fun _ => rfl) rfl fun _ ok => ⟨ok, rfl⟩
  · exact spelled_of_fields readOnOff_spells .setRecover h ‹_› (fun _ => rfl) rfl fun _ _ => ⟨rfl, rfl⟩
  · exact spelled_of_fields read1_spells .setBlend h ‹_› (fun _ => rfl) rfl fun _ ok => ⟨ok, rfl⟩
  · exact spelled_of_fields read2_spells .setSettle h ‹_› (fun _ => rfl) rfl fun _ ok => ⟨ok, rfl⟩
  · exact spelled_of_fields (readList_spells readSource_spells) .setPreference h ‹_› (fun _ => rfl) rfl
      fun _ ok => ⟨ok.1, rfl⟩
  · cases h

theorem queryCommand_spelled {k : Byte} {p : List Byte} {g : State → State}
    (h : queryCommand k.toNat p = some g) : Spelled k p := by
  unfold queryCommand at h
  split at h
  · exact spelled_of_fields read1_spells .queryEntry h ‹_› (fun _ => rfl) rfl fun _ ok => ⟨ok, rfl⟩
  · exact spelled_of_fields read1_spells .queryGroup h ‹_› (fun _ => rfl) rfl fun _ ok => ⟨ok, rfl⟩
  · exact spelled_of_fields readSource_spells .queryRig h ‹_› (fun _ => rfl) rfl fun _ _ => ⟨rfl, rfl⟩
  · exact spelled_of_noFields .queryTransport h ‹_› rfl rfl rfl rfl
  · exact spelled_of_noFields .queryArbiter h ‹_› rfl rfl rfl rfl
  · exact spelled_of_noFields .queryTakes h ‹_› rfl rfl rfl rfl
  · exact spelled_of_noFields .querySettings h ‹_› rfl rfl rfl rfl
  · cases h

/-- A frame that no Command spells is not decoded (R170). -/
theorem decodeCommand_eq_none {k : Byte} {p : List Byte} (h : ¬Spelled k p) : decodeCommand k p = none := by
  by_contra some_
  obtain ⟨g, e⟩ := Option.ne_none_iff_exists'.1 some_
  refine h ?_
  unfold decodeCommand at e
  dsimp only at e
  split at e
  · exact setListCommand_spelled e
  · exact transportCommand_spelled e
  · exact sourceCommand_spelled e
  · exact settingsCommand_spelled e
  · exact queryCommand_spelled e
  · cases e

/-- The kinds of R170. -/
theorem Spelled.kind {k : Byte} {p : List Byte} (h : Spelled k p) :
    (0x10 ≤ k.toNat ∧ k.toNat ≤ 0x14) ∨ (0x20 ≤ k.toNat ∧ k.toNat ≤ 0x27) ∨ (0x30 ≤ k.toNat ∧ k.toNat ≤ 0x33) ∨
      (0x40 ≤ k.toNat ∧ k.toNat ≤ 0x4B) ∨ (0x50 ≤ k.toNat ∧ k.toNat ≤ 0x56) := by
  obtain ⟨c, -, kind, -⟩ := h
  cases c <;> cases kind <;> decide

/-- The transport class Commands but LOCATE have no fields. -/
theorem Spelled.transport {k : Byte} {p : List Byte} (h : Spelled k p) (cls : k.toNat / 16 = 2) (other : k.toNat ≠ 0x24) :
    p = [] := by
  obtain ⟨c, -, kind, payload⟩ := h
  cases c <;> cases kind <;> first | exact absurd rfl other | (cases payload; rfl) | cases cls

/-! ## A whole frame (R169, R170) -/

theorem be2_num2 {n : Nat} (h : n < 65536) : be2 (BitVec.ofNat 8 (n / 256)) (BitVec.ofNat 8 n) = n := by
  simp only [be2, BitVec.toNat_ofNat]
  omega

/-- The receiver finds the kind and the payload of a whole frame. -/
theorem frameOf_deskFrame {k : Byte} {p : List Byte} (len : p.length ≤ 249) :
    ∃ bytes, deskFrameBytes k p = 0xA5 :: bytes ∧ frameOf bytes = .frame k p [] := by
  refine ⟨_, rfl, ?_⟩
  have n : be2 (BitVec.ofNat 8 ((p.length + 1) / 256)) (BitVec.ofNat 8 (p.length + 1)) = p.length + 1 :=
    be2_num2 (by omega)
  have range : ¬(p.length + 1 = 0 ∨ Config.maxFrameLength < p.length + 1) := by
    simp only [Config.maxFrameLength]
    omega
  simp only [num2, List.cons_append, List.nil_append, frameOf, n, if_neg range, crcBytes, List.length_cons,
    List.length_append, List.length_nil, Nat.lt_irrefl, if_false]
  simp [frameEnd, crcBytes, List.drop_append]

/-- A hunting receiver hands a whole frame to the judgement of its Command. -/
theorem receive_deskFrame {k : Byte} {p : List Byte} {s : State} (len : p.length ≤ 249) (rx : s.desk.rx = .hunting) :
    receive (deskFrameBytes k p) s = setReceiver .hunting (judge k p s) := by
  obtain ⟨bytes, e, frame⟩ := frameOf_deskFrame (k := k) len
  rw [receive, rx, e]
  simp only [scan, if_true, frame]
  rfl

/-- Bytes without a start byte leave the receiver hunting and do nothing else (R169). -/
theorem scan_of_no_start : ∀ {n : Nat} {bs : List Byte} (s : State), (0xA5 : Byte) ∉ bs → scan n bs s = setReceiver .hunting s
  | 0, _, _, _ => rfl
  | _ + 1, [], _, _ => rfl
  | n + 1, b :: bs, s, h => by
    have other : b ≠ 0xA5 := fun e => h (by rw [e]; exact List.mem_cons_self)
    rw [scan, if_neg other]
    exact scan_of_no_start s fun m => h (.tail _ m)

theorem setReceiver_same {rx : Receiver} {s : State} (h : s.desk.rx = rx) : setReceiver rx s = s := by
  subst h
  rfl

/-- A start byte whose frame is discarded is passed over (R169). -/
theorem scan_discarded {bs : List Byte} (n : Nat) (s : State) (frame : frameOf bs = .discard) :
    scan (n + 1) (0xA5 :: bs) s = scan n bs s := by
  simp only [scan, if_true, frame]

/-- Bytes that begin with a start byte but hold no frame, nor another start byte, have no effect (R169). -/
theorem receive_discarded {bs : List Byte} {s : State} (rx : s.desk.rx = .hunting) (frame : frameOf bs = .discard)
    (only : (0xA5 : Byte) ∉ bs) : receive (0xA5 :: bs) s = s := by
  rw [receive, rx]
  exact (scan_discarded _ s frame).trans ((scan_of_no_start _ only).trans (setReceiver_same rx))

theorem receive_no_start {bs : List Byte} {s : State} (rx : s.desk.rx = .hunting) (only : (0xA5 : Byte) ∉ bs) :
    receive bs s = s := by
  rw [receive, rx]
  exact (scan_of_no_start s only).trans (setReceiver_same rx)

/-! ## The receiver hunts on after a Command -/

theorem hunting_writes : Writes fun s => s.desk.rx = .hunting where
  raise b p := by simpa using p
  aside h p := by rw [h]; exact p
  tracker _ _ p := p
  exclude _ _ p := p
  port _ p := p
  tr _ p := p
  groups _ p := p
  takes _ p := p
  closed _ p := p
  withdrawn _ p := p
  requested _ _ p := p
  opened _ _ p := (ArbiterWork.openService _ _).rx.trans p

theorem hunting_kept : Kept fun s => s.desk.rx = .hunting where
  toWrites := hunting_writes
  stopRun c _ _ _ p := hunting_writes.stopped c p
  idle _ p := p

/-- A Command leaves a hunting receiver hunting; RESTART sets it so (R180). -/
theorem Handled.hunting {s t : State} (h : Handled s t) (p : s.desk.rx = .hunting) : t.desk.rx = .hunting := by
  cases h with
  | same => exact p
  | reply r n _ => exact p
  | work w _ r =>
    exact hunting_kept.command w (fun _ _ _ => p) (fun _ _ _ => p)
      (fun _ => hunting_kept.restartReports (s := restartBlocks (abandonStore { s with desk := s.desk.restart }))
        (hunting_kept.abandonStore (s := { s with desk := s.desk.restart }) rfl)) p

theorem judge_eq {k : Byte} {p : List Byte} {f : State → State} (h : decodeCommand k p = some f) : judge k p = f := by
  rw [judge, h]

/-- Settles O17: the frame is decoded to the Command's row, which leaves the receiver hunting. -/
theorem framesSpellCommands : Obligations.FramesSpellCommands := by
  intro c k p s wf kind payload len rx
  obtain ⟨f, decoded, row⟩ := decodeCommand_of_spelled wf kind payload
  have handled := judge_handled k p s
  rw [judge_eq decoded] at handled
  have hunting : (f s).desk.rx = .hunting := handled.hunting rx
  have received : receive (deskFrameBytes k p) s = f s := by
    rw [receive_deskFrame len rx, judge_eq decoded, setReceiver_same hunting]
  refine ⟨event f s, row s, ?_, ?_⟩
  · change Host.Outcome.next (event (receive (deskFrameBytes k p)) s) = .next (event f s)
    unfold event
    rw [received]
  · unfold event
    split
    · simpa [kick] using hunting
    · exact rx

/-! ## Frames and bytes that are no Command (R169, R170) -/

/-- A frame that no Command spells is answered BAD_VALUE with class NONE. -/
theorem exec_deskFrame_unspelled {k : Byte} {p : List Byte} {s : State} (listening : s.Listening)
    (rx : s.desk.rx = .hunting) (len : p.length ≤ 249) (h : ¬Spelled k p) :
    exec (.deskFrame (deskFrameBytes k p)) s = .next (s.answered k .badValue .none) := by
  have judged : judge k p s = pushReply ⟨k, .badValue, .none⟩ s := by
    rw [judge, decodeCommand_eq_none h]
    exact gate_empty listening.2
  refine congrArg _ ((event_on listening.1).trans ?_)
  rw [receive_deskFrame len rx, judged, setReceiver_same (show (pushReply _ s).desk.rx = .hunting from rx)]
  exact kick_pushReply _ _ _ listening.2

/-- A length and bytes whose check disagrees are no frame. -/
theorem frameOf_badCheck {h l a b : Byte} {body : List Byte} (low : 1 ≤ be2 h l) (high : be2 h l ≤ 250)
    (len : body.length = be2 h l) (bad : crcBytes (crc16 (h :: l :: body)) ≠ [a, b]) :
    frameOf (h :: l :: (body ++ [a, b])) = .discard := by
  have range : ¬(be2 h l = 0 ∨ Config.maxFrameLength < be2 h l) := by
    simp only [Config.maxFrameLength]
    omega
  have whole : ¬(body ++ [a, b]).length < be2 h l + 2 := by simp [len]
  have ends : frameOf (h :: l :: (body ++ [a, b])) = frameEnd h l (be2 h l) (body ++ [a, b]) := by
    simp only [frameOf, if_neg range, if_neg whole]
  rw [ends, ← len, frameEnd]
  simp only [List.take_left', List.drop_left']
  cases body with
  | nil => rfl
  | cons k p => exact if_neg fun e => bad (by simpa using Eq.symm e)

theorem frameOf_badLength {h l : Byte} (bad : be2 h l = 0 ∨ 250 < be2 h l) : frameOf [h, l] = .discard := if_pos bad

/-- A frame in progress without a further start byte is discarded whole (R169). -/
theorem discardFrame_collecting {s : State} {taken : List Byte} (rx : s.desk.rx = .collecting taken)
    (only : (0xA5 : Byte) ∉ taken) : discardFrame s = setReceiver .hunting s := by
  have hunting (n : Nat) : abandonFrame n (setReceiver .hunting s) = setReceiver .hunting s := by cases n <;> rfl
  rw [discardFrame, rx]
  dsimp only
  rw [abandonFrame, rx]
  dsimp only
  rw [scan_of_no_start s only, hunting]

theorem discardFrame_hunting {s : State} (rx : s.desk.rx = .hunting) : discardFrame s = s := by
  rw [discardFrame, rx]

/-- Settles O18: frames that no Command spells, bad checks, stray bytes, and the receiver's own events. -/
theorem receiverRules : Obligations.ReceiverRules := by
  have unchanged {f : State → State} {s : State} (on : s.power = true) (h : f s = s) :
      (Host.Outcome.next (event f s) : Host.Outcome State Fault Refusal) = .next (kick s) := by rw [event_on on, h]
  refine ⟨fun s listening rx => ⟨fun k p len h => ?_, fun k p len h => ?_, fun k p len h => ?_,
    fun h l a b body low high len only bad => ?_, fun bytes only => ?_⟩, fun s on => ⟨fun rx => ⟨?_, fun h l hs ls => ?_,
      ?_, ?_⟩, fun rx h l bad hs ls => ?_, fun taken rx only => ⟨?_, ?_⟩⟩⟩
  · refine exec_deskFrame_unspelled listening rx len fun spelled => ?_
    have kinds := spelled.kind
    obtain low | high | ⟨cls, other, fields⟩ := h
    · omega
    · omega
    · exact fields (spelled.transport cls other)
  · refine exec_deskFrame_unspelled listening rx len fun spelled => ?_
    have kinds := spelled.kind
    omega
  · exact exec_deskFrame_unspelled listening rx len fun ⟨c, wf, kind, payload⟩ => h c wf kind payload
  · exact unchanged listening.1 (receive_discarded rx (frameOf_badCheck low high len bad) only)
  · exact unchanged listening.1 (receive_no_start rx only)
  · refine congrArg _ ((event_on on).trans ?_)
    rw [receive, rx]
    rfl
  · exact unchanged on (receive_no_start rx (by
      simp only [List.mem_cons, List.not_mem_nil, or_false, not_or]
      exact ⟨hs.symm, ls.symm⟩))
  · exact unchanged on (discardFrame_hunting rx)
  · exact unchanged on (discardFrame_hunting rx)
  · have only : (0xA5 : Byte) ∉ [h, l] := by
      simp only [List.mem_cons, List.not_mem_nil, or_false, not_or]
      exact ⟨hs.symm, ls.symm⟩
    refine congrArg _ ((event_on on).trans ?_)
    rw [receive, rx]
    exact congrArg kick ((scan_discarded _ s (frameOf_badLength bad)).trans (scan_of_no_start s only))
  · refine congrArg _ ((event_on on).trans ?_)
    rw [discardFrame_collecting rx only]
    rfl
  · refine congrArg _ ((event_on on).trans ?_)
    rw [discardFrame_collecting rx only]
    rfl

end Sys2Proof.Machine

end

section
/-! SUPPORT. The store operation (R15, R17), a link that goes DOWN (R50, R64), SET RATE and RECALL SHOW (R18, R64). -/

namespace Sys2Proof.Machine

/-! ## The store operation (R15, R17) -/

/-- The outcome of a row, from what its event comes to. -/
theorem next_eq {f : State → State} {s t : State} (h : event f s = t) :
    (Host.Outcome.next (event f s) : Host.Outcome State Fault Refusal) = .next t := congrArg _ h

/-- The outcome of a row with power, from what its work comes to. -/
theorem next_event {f : State → State} {s t : State} (on : s.power = true) (h : f s = t) :
    (Host.Outcome.next (event f s) : Host.Outcome State Fault Refusal) = .next (kick t) := by rw [event_on on, h]

theorem storeWriteEndWork_writing {s : State} {c : Contents} {changed : Bool} (h : s.cond = .writing c changed)
    (damage : List (Nat × Byte)) : storeWriteEndWork damage s = writeEnd c changed damage s := by
  rw [storeWriteEndWork, h]

theorem storeWriteEndWork_settled {s : State} (h : s.cond.Settled) (damage : List (Nat × Byte)) :
    storeWriteEndWork damage s = s := by
  unfold storeWriteEndWork
  split
  · exact absurd ‹_› (h _ _)
  · rfl

theorem storeTimeoutWork_writing {s : State} {c : Contents} {changed : Bool} (h : s.cond = .writing c changed)
    (written : Nat) : storeTimeoutWork written s = raise (.storeFailed .timeout .invalid true)
      { s with cond := .invalid, unstored := true, retained := c.abandonedCopy written } := by
  rw [storeTimeoutWork, h]

theorem storeTimeoutWork_settled {s : State} (h : s.cond.Settled) (written : Nat) : storeTimeoutWork written s = s := by
  unfold storeTimeoutWork
  split
  · exact absurd ‹_› (h _ _)
  · rfl

/-- Settles O23: STORE SHOW's snapshot, and the two ends of an operation. -/
theorem storeCommandAndEnds : Obligations.StoreCommandAndEnds := by
  refine ⟨fun s h => ?_, fun s on => ⟨fun c changed damage writing agrees => ?_, fun c changed damage writing differs => ?_,
    fun c changed written writing => ?_, fun settled damage written => ⟨?_, ?_⟩⟩⟩
  · have refused (busy : s.editBusy = true) : exec .storeShow s = .next (s.answered 0x13 .busy s.setListSummary) :=
      congrArg _ (event_command_same h (if_pos busy))
    refine ⟨fun running => refused (State.editBusy_of_running running),
      fun writing => refused (State.editBusy_of_writing writing), fun stopped settled => ?_⟩
    have taken : storeShowWork s = ({ s with cond := .writing s.contents false, retained := ⟨[], none⟩ }, .accepted) :=
      if_neg (by simp [State.editBusy_eq_false.2 ⟨stopped, settled⟩])
    have row := event_command (k := 0x13) (c := .setList) (w := storeShowWork) h (by rw [taken]; exact h.2)
    rw [taken] at row
    exact ⟨{ s with cond := .writing s.contents false, retained := ⟨[], none⟩ }, next_eq row, rfl, rfl, rfl⟩
  · refine ⟨_, next_event on ((storeWriteEndWork_writing writing damage).trans (if_pos agrees)), rfl, rfl, ?_, ?_, rfl⟩
    · exact ⟨_, if_pos (congrArg some agrees.symm), readGood_ok _⟩
    · rintro rfl ok
      exact storeRoundTrip c ok
  · refine ⟨_, next_event on ((storeWriteEndWork_writing writing damage).trans (if_neg differs)), ?_, rfl⟩
    exact if_neg fun e => differs (Option.some.inj e).symm
  · refine ⟨_, next_event on (storeTimeoutWork_writing writing written), ?_, rfl⟩
    exact if_neg nofun
  · exact next_event on (storeWriteEndWork_settled settled damage)
  · exact next_event on (storeTimeoutWork_settled settled written)

/-! ## Offered Notices (R178) -/

theorem Desk.offers_append (a b : List NoticeBody) (n : HouseBlock) (d : Desk) :
    d.offers (a ++ b) n = (d.offers a n).offers b n := List.foldl_append

@[simp] theorem Desk.offers_nil (n : HouseBlock) (d : Desk) : d.offers [] n = d := rfl

@[simp] theorem Desk.offers_replies (bodies : List NoticeBody) (n : HouseBlock) (d : Desk) :
    (d.offers bodies n).replies = d.replies := by
  induction bodies generalizing d with
  | nil => rfl
  | cons b bs ih => exact (ih _).trans (Desk.offer_replies d b n)

/-! ## A link that goes DOWN (R50, R63, R64, R67, R94) -/

theorem Tracker.linkDown_excluded {t : Tracker} (h : t.st = .excluded) : t.linkDown = t := if_pos h

theorem Tracker.linkDown_other {t : Tracker} (h : t.st ≠ .excluded) :
    t.linkDown = { Tracker.reset with tap := t.tap, balance := t.balance } := if_neg h

theorem Tracker.linkDown_excluded_iff (t : Tracker) : t.linkDown.st = .excluded ↔ t.st = .excluded := by
  by_cases h : t.st = .excluded
  · rw [Tracker.linkDown_excluded h]
  · rw [Tracker.linkDown_other h]
    exact iff_of_false nofun h

theorem decide103_congr {s u : State} (st : u.tr.st = s.tr.st) (groups : u.groups = s.groups)
    (settings : u.settings = s.settings) (r : Rig) (d : Detection) : decide103 r d u = decide103 r d s := by
  unfold decide103
  rw [st, groups, settings]

theorem decide103_stopped {s : State} (h : s.tr.st ≠ .rolling) (r : Rig) (d : Detection) :
    decide103 r d s = .advisoryState := if_neg h

/-- An advisory detection raises its FAULT and no more, when no take is open (R103, R106). -/
theorem detect_advisory {r : Rig} {d : Detection} {n : Bool} {s : State} (takes : s.sw.takes = [])
    (advisory : decide103 r d s ≠ .requested) : detect r d n s =
      raise (.fault r d n d.level .detection false (decide103 r d s) (s.tracker r).causes) s := by
  have target : isTarget s.sw.takes r = false := by rw [takes]; rfl
  unfold detect
  simp only [target, Bool.false_eq_true, if_false, if_neg advisory]

/-- What the loss of a link leaves when its detection is advisory and no take is open. -/
def State.linkDropped (f : Port → Port) (r : Rig) (s : State) : State :=
  { s with
    ports := s.ports.set r (f (s.port r)), trackers := s.trackers.set r (s.tracker r).linkDown
    tr := { s.tr with rigCue := s.tr.rigCue.set r none }, desk := s.desk.offers (s.linkDrop r) s.block }

theorem raise_unless (c : Prop) [Decidable c] (b : NoticeBody) (s : State) :
    (if c then s else raise b s) = { s with desk := s.desk.offers (if c then [] else [b]) s.block } := by
  split <;> rfl

theorem dropLink_advisory {f : Port → Port} {r : Rig} {s : State} (takes : s.sw.takes = [])
    (advisory : ¬((s.tracker r).st = .excluded ∨ (s.tracker r).st = .offline) → decide103 r .link s ≠ .requested)
    (down : (f (s.port r)).link = .down) : dropLink f r s = s.linkDropped f r := by
  generalize hu : ((s.setPort r (f (s.port r))).setRigCue r none).setTracker r (s.tracker r).linkDown = u
  have tracker : u.tracker r = (s.tracker r).linkDown := by rw [← hu, State.setTracker_tracker_self]
  have port : (u.port r).link = .down := by
    rw [← hu]
    exact (congrArg Port.link (State.setPort_port_self s r _)).trans down
  have outcome (d : Desk) : decide103 r .link { u with desk := d } = decide103 r .link s := by
    subst hu
    exact decide103_congr rfl rfl rfl r .link
  have gone : raiseRigState r false u = raise
      (if (s.tracker r).st = .excluded then
        .rigState r .down .excluded (s.tracker r).cued (s.tracker r).tap (s.tracker r).causes false
       else .rigState r .down .offline false (s.tracker r).tap ⟨false, false, false⟩ false) u := by
    rw [raiseRigState, tracker, port]
    split
    · rename_i h
      rw [Tracker.linkDown_excluded h, h]
    · rw [Tracker.linkDown_other ‹_›]
      rfl
  have fault (d : Desk) (online : ¬((s.tracker r).st = .excluded ∨ (s.tracker r).st = .offline)) :
      detect r .link false { u with desk := d } =
        raise (.fault r .link false 0 .detection false (decide103 r .link s) ⟨false, false, false⟩) { u with desk := d } := by
    have causes : (u.tracker r).causes = ⟨false, false, false⟩ := by
      rw [tracker, Tracker.linkDown_other fun h => online (.inl h)]
      rfl
    rw [detect_advisory (by subst hu; exact takes) (by rw [outcome]; exact advisory online), outcome]
    exact congrArg (fun c => raise (.fault r .link false 0 .detection false (decide103 r .link s) c) { u with desk := d })
      causes
  unfold dropLink
  simp only [hu, gone, raise_unless]
  by_cases online : (s.tracker r).st = .excluded ∨ (s.tracker r).st = .offline
  · subst hu
    simp only [if_pos online, State.linkDropped, State.linkDrop, List.append_nil]
    rfl
  · rw [if_neg online, fault _ online]
    subst hu
    simp only [if_neg online, State.linkDropped, State.linkDrop, Desk.offers_append]
    rfl

theorem linkDropped_linkDrop (f : Port → Port) {r q : Rig} (h : q ≠ r) (s : State) :
    (s.linkDropped f r).linkDrop q = s.linkDrop q := by
  have tracker : (s.linkDropped f r).tracker q = s.tracker q := PerRig.get_set_other _ _ h
  have port : (s.linkDropped f r).port q = s.port q := PerRig.get_set_other _ _ h
  unfold State.linkDrop
  rw [tracker, port, decide103_congr (s := s) (u := s.linkDropped f r) rfl rfl rfl]

/-- A change of the house rate outside ROLLING (R64): every link in port order. -/
theorem dropAllLinks_stopped {s : State} (takes : s.sw.takes = []) (stopped : s.tr.st ≠ .rolling) :
    dropAllLinks s =
      { s with
        ports := ⟨s.ports.a.rateChange, s.ports.b.rateChange, s.ports.c.rateChange⟩
        trackers := ⟨s.trackers.a.linkDown, s.trackers.b.linkDown, s.trackers.c.linkDown⟩
        tr := { s.tr with rigCue := ⟨none, none, none⟩ }
        desk := s.desk.offers ([.A, .B, .C].flatMap s.linkDrop) s.block } := by
  have one (r : Rig) {u : State} (takes : u.sw.takes = []) (stopped : u.tr.st ≠ .rolling) :
      dropLink Port.rateChange r u = u.linkDropped Port.rateChange r :=
    dropLink_advisory takes (fun _ => by rw [decide103_stopped stopped]; decide) rfl
  simp only [dropAllLinks, Rig.all, List.foldl]
  rw [one .A takes stopped, one .B (u := s.linkDropped _ .A) takes stopped,
    one .C (u := (s.linkDropped _ .A).linkDropped _ .B) takes stopped]
  have b := linkDropped_linkDrop Port.rateChange (show Rig.B ≠ .A by decide) s
  have c := (linkDropped_linkDrop Port.rateChange (show Rig.C ≠ .B by decide) (s.linkDropped Port.rateChange .A)).trans
    (linkDropped_linkDrop Port.rateChange (show Rig.C ≠ .A by decide) s)
  have desk : ((s.desk.offers (s.linkDrop .A) s.block).offers ((s.linkDropped Port.rateChange .A).linkDrop .B) s.block).offers
      (((s.linkDropped Port.rateChange .A).linkDropped Port.rateChange .B).linkDrop .C) s.block =
        s.desk.offers ([.A, .B, .C].flatMap s.linkDrop) s.block := by
    rw [b, c]
    simp [Desk.offers_append]
  exact congrArg (fun d : Desk => { s with
    ports := ⟨s.ports.a.rateChange, s.ports.b.rateChange, s.ports.c.rateChange⟩
    trackers := ⟨s.trackers.a.linkDown, s.trackers.b.linkDown, s.trackers.c.linkDown⟩
    tr := { s.tr with rigCue := ⟨none, none, none⟩ }, desk := d }) desk

/-- Every record after a change of the house rate, rig by rig. -/
theorem rateChanged_records (s : State) (r : Rig) :
    let t : State := { s with
      ports := ⟨s.ports.a.rateChange, s.ports.b.rateChange, s.ports.c.rateChange⟩
      trackers := ⟨s.trackers.a.linkDown, s.trackers.b.linkDown, s.trackers.c.linkDown⟩ }
    t.port r = (s.port r).rateChange ∧ t.tracker r = (s.tracker r).linkDown := by
  cases r <;> exact ⟨rfl, rfl⟩

/-! ## SET RATE (R64) -/

theorem rateOf_eq_some {v : Nat} {r : Rate} : rateOf v = some r ↔ v = r.frames := by
  constructor
  · intro h
    unfold rateOf at h
    split at h <;> cases h <;> rfl
  · rintro rfl
    exact rateOf_frames r

theorem rateOf_eq_none {v : Nat} (a : v ≠ 48000) (b : v ≠ 96000) : rateOf v = none := by
  unfold rateOf
  split
  · exact absurd rfl a
  · exact absurd rfl b
  · rfl

theorem Rate.frames_cases {v : Nat} (h : v = 48000 ∨ v = 96000) : ∃ r : Rate, v = r.frames := by
  obtain rfl | rfl := h
  · exact ⟨.r48, rfl⟩
  · exact ⟨.r96, rfl⟩

theorem setRateWork_idle {v : Nat} {s : State} (idle : s.tr.st = .idle) : setRateWork v s =
    match rateOf v with
    | none => (s, .badValue)
    | some r =>
      if r = s.settings.rate then (s, .accepted)
      else
        (markUnstored (dropAllLinks
          { s with settings := { s.settings with rate := r }, tr := { s.tr with cueCount := 0 } }), .accepted) :=
  if_neg (not_not.2 idle)

/-- Settles O14: the refusals, and the loss of the three links. -/
theorem setRate : Obligations.SetRate := by
  intro v s h
  have refused {r : Result} (work : setRateWork v s = (s, r)) :
      exec (.setRate v) s = .next (s.answered 0x40 r (.settings s.settings s.prefs)) :=
    congrArg _ (event_settings_same h work)
  refine ⟨fun busy => refused (if_pos busy), fun idle a b => refused ?_, fun idle same => refused ?_,
    fun idle takes value other => ?_⟩
  · rw [setRateWork_idle idle, rateOf_eq_none a b]
  · rw [setRateWork_idle idle, rateOf_eq_some.2 same]
    exact if_pos rfl
  · obtain ⟨r, rfl⟩ := Rate.frames_cases value
    have changed : r ≠ s.settings.rate := fun e => other (by rw [e])
    have work := setRateWork_idle (v := r.frames) idle
    rw [rateOf_frames] at work
    dsimp only at work
    have dropped := dropAllLinks_stopped
      (s := { s with settings := { s.settings with rate := r }, tr := { s.tr with cueCount := 0 } }) takes
      (show s.tr.st ≠ .rolling by simp [idle])
    rw [if_neg changed, markUnstored_eq, dropped] at work
    have row := event_command (k := 0x40) (c := .settings) (w := setRateWork r.frames) h (by
      rw [work]
      exact (Desk.offers_replies ..).trans h.2)
    rw [work] at row
    refine ⟨_, next_eq row, rfl, rfl, rfl, rfl, fun q => ?_, fun q online => ?_, fun q excluded => ?_, rfl, rfl, rfl⟩
    · exact (rateChanged_records s q).1
    · exact (rateChanged_records s q).2.trans (Tracker.linkDown_other online)
    · exact (rateChanged_records s q).2.trans (Tracker.linkDown_excluded excluded)

/-! ## RECALL SHOW (R18) -/

/-- The working contents replaced, before a change of the house rate acts on the links. -/
def State.recalled (c : Contents) (s : State) : State :=
  { s with
    setList := c.setList, groups := c.groups.map recalledGroup, prefs := c.prefs, settings := c.settings
    cond := .valid, unstored := false
    tr := { s.tr with
      cueCount :=
        if s.settings.rate = c.settings.rate ∧ s.settings.debounce = c.settings.debounce then s.tr.cueCount else 0 } }

theorem recallContents_eq (c : Contents) (s : State) :
    recallContents c s = if s.settings.rate = c.settings.rate then s.recalled c else dropAllLinks (s.recalled c) := by
  unfold recallContents State.recalled
  by_cases rate : s.settings.rate = c.settings.rate <;> by_cases debounce : s.settings.debounce = c.settings.debounce <;>
    simp [rate, debounce]

/-- Settles O24: the refusals, the bad copy, and the good copy with and without another house rate. -/
theorem recallShow : Obligations.RecallShow := by
  intro s h
  refine ⟨fun busy => ?_, fun idle writing => ?_, fun idle settled => ?_⟩
  · exact congrArg _ (event_command_same h (if_pos busy))
  · exact congrArg _ (event_command_same h
      ((if_neg (not_not.2 idle)).trans (if_pos (StoreCond.isWriting_eq_true.2 writing))))
  have work : recallShowWork s =
      match s.retained.contents with
      | none => ({ s with cond := .invalid, unstored := true }, .storeFailed)
      | some c => (recallContents c s, .accepted) :=
    (if_neg (not_not.2 idle)).trans (if_neg (by simp [StoreCond.isWriting_eq_false.2 settled]))
  refine ⟨fun bad => ?_, fun c good takes => ?_⟩
  · rw [bad] at work
    have row := event_command (k := 0x14) (c := .setList) (w := recallShowWork) h (by rw [work]; exact h.2)
    rw [work] at row
    exact next_eq row
  · rw [good] at work
    dsimp only at work
    rw [recallContents_eq] at work
    by_cases rate : s.settings.rate = c.settings.rate
    · rw [if_pos rate] at work
      have row := event_command (k := 0x14) (c := .setList) (w := recallShowWork) h (by rw [work]; exact h.2)
      rw [work] at row
      refine ⟨_, next_eq row, rfl, rfl, rfl, rfl, rfl, rfl, ?_, fun _ => Iff.rfl, rfl, fun _ => ⟨rfl, rfl, rfl⟩,
        fun other => absurd rate other, rfl⟩
      rw [if_pos rate]
      rfl
    · have dropped := dropAllLinks_stopped (s := s.recalled c) takes (show s.tr.st ≠ .rolling by simp [idle])
      rw [if_neg rate, dropped] at work
      have row := event_command (k := 0x14) (c := .setList) (w := recallShowWork) h (by
        rw [work]
        exact (Desk.offers_replies ..).trans h.2)
      rw [work] at row
      have drops : (s.recalled c).linkDrop = s.linkDrop := by
        funext r
        unfold State.linkDrop
        rw [decide103_stopped (s := s.recalled c) (by simp [State.recalled, idle]), decide103_stopped (by simp [idle])]
        rfl
      refine ⟨_, next_eq row, rfl, rfl, rfl, rfl, rfl, rfl, ?_, fun r => ?_, rfl, fun same => absurd same rate,
        fun _ => ⟨fun r => ?_, fun r online => ?_, fun r excluded => ?_, rfl⟩, rfl⟩
      · rw [if_neg rate, ← drops]
        rfl
      · exact (Tracker.linkDown_excluded_iff _).symm.trans (by
          rw [← (rateChanged_records s r).2]
          rfl)
      · exact (rateChanged_records s r).1
      · exact (rateChanged_records s r).2.trans (Tracker.linkDown_other online)
      · exact (rateChanged_records s r).2.trans (Tracker.linkDown_excluded excluded)

end Sys2Proof.Machine

end

section
/-! SUPPORT. The two kinds of writes that the transport's commands make besides its own fields, each as one equation: an
event's writes to the group table with their reports (R158), and a change told to every tracker with its RIG_STATEs (R89). -/

namespace Sys2Proof.Machine

/-! ## The group table written (R99, R112, R158) -/

/-- The state after an event's writes have left the groups `gs`. -/
def State.regrouped (gs : List Group) (s : State) : State :=
  { s with
    groups := gs, trackers := ⟨s.trackerAfter gs .A, s.trackerAfter gs .B, s.trackerAfter gs .C⟩
    arb := { s.arb with requests := s.requestsAfter gs }
    desk := s.desk.offers (s.rigStates s.tracker (s.trackerAfter gs)) s.block }

@[simp] theorem State.regrouped_tracker (gs : List Group) (s : State) (r : Rig) :
    (s.regrouped gs).tracker r = s.trackerAfter gs r := by cases r <;> rfl

theorem writeGroups_eq (f : List Group → List Group) (s : State) : writeGroups f s = s.regrouped (f s.groups) := by
  have frame := (ArbiterWork.lossReports s.groups { s with groups := f s.groups }).frame
  have trackers : (writeGroups f s).trackers = (s.regrouped (f s.groups)).trackers :=
    PerRig.ext_get fun r => (writeGroups_tracker f s r).trans (State.regrouped_tracker _ s r).symm
  change writeGroups f s = { s with
    trackers := (writeGroups f s).trackers, arb := (writeGroups f s).arb, sw := (writeGroups f s).sw
    groups := (writeGroups f s).groups, desk := (writeGroups f s).desk } at frame
  rw [frame, trackers, writeGroups_arb, writeGroups_sw, writeGroups_groups, writeGroups_desk]
  rfl

/-- Groups that all stood on FALLBACK have lost no rig: no report follows their writes. -/
theorem State.regrouped_of_fallback {s : State} (h : ∀ g ∈ s.groups, g.source = .fallback) (gs : List Group) :
    s.regrouped gs = { s with groups := gs } := by
  have off (r : Rig) : ¬∃ g ∈ s.groups, g.source = .rig r := fun ⟨g, hg, e⟩ => by
    rw [h g hg] at e
    cases e
  have tracker (r : Rig) : s.trackerAfter gs r = s.tracker r := if_neg fun k => off r k.2.1
  have requests : s.requestsAfter gs = s.arb.requests := by
    refine List.filter_eq_self.2 fun q _ => ?_
    have none_ : s.groups.any (fun g => g.gdef.follow == .follow && g.source == .rig q.rig) = false := by
      simp only [List.any_eq_false, Bool.and_eq_true, beq_iff_eq, not_and]
      exact fun g hg _ e => off q.rig ⟨g, hg, e⟩
    simp [none_]
  have silent : s.rigStates s.tracker (s.trackerAfter gs) = [] := by simp [State.rigStates, tracker]
  rw [State.regrouped, requests, silent, tracker, tracker, tracker]
  rfl

/-! ## A change told to every tracker (R80, R84, R89) -/

/-- The RIG_STATE of one tracker that an event changes, where the change shows. -/
def State.tells (f : Tracker → Tracker) (s : State) (r : Rig) : List NoticeBody :=
  let t := s.tracker r
  let u := f t
  if t.st ≠ u.st ∨ t.cued ≠ u.cued ∨ t.causes ≠ u.causes then
    [.rigState r (s.port r).link u.st u.cued u.tap u.causes false]
  else []

theorem rigStates_eq_tells (f : Tracker → Tracker) (s : State) :
    (s.rigStates s.tracker fun r => f (s.tracker r)) = s.tells f .A ++ (s.tells f .B ++ s.tells f .C) := by
  have one (r : Rig) (rs : List Rig) (g : Rig → NoticeBody)
      (hg : g r = .rigState r (s.port r).link (f (s.tracker r)).st (f (s.tracker r)).cued (f (s.tracker r)).tap
        (f (s.tracker r)).causes false) :
      ((r :: rs).filter fun r => decide ((s.tracker r).st ≠ (f (s.tracker r)).st ∨
        (s.tracker r).cued ≠ (f (s.tracker r)).cued ∨ (s.tracker r).causes ≠ (f (s.tracker r)).causes)).map g =
      s.tells f r ++ (rs.filter fun r => decide ((s.tracker r).st ≠ (f (s.tracker r)).st ∨
        (s.tracker r).cued ≠ (f (s.tracker r)).cued ∨ (s.tracker r).causes ≠ (f (s.tracker r)).causes)).map g := by
    unfold State.tells
    rw [List.filter_cons]
    split <;> simp_all
  unfold State.rigStates
  rw [one .A _ _ rfl, one .B _ _ rfl, one .C _ _ rfl]
  simp

/-- One tracker changed, and its RIG_STATE where the change shows. -/
def State.told (f : Tracker → Tracker) (r : Rig) (s : State) : State :=
  { s with trackers := s.trackers.set r (f (s.tracker r)), desk := s.desk.offers (s.tells f r) s.block }

/-- Every tracker changed, with the RIG_STATEs in port order. -/
def State.allTold (f : Tracker → Tracker) (s : State) : State :=
  { s with
    trackers := ⟨f s.trackers.a, f s.trackers.b, f s.trackers.c⟩
    desk := s.desk.offers (s.rigStates s.tracker fun r => f (s.tracker r)) s.block }

@[simp] theorem State.allTold_tracker (f : Tracker → Tracker) (s : State) (r : Rig) :
    (s.allTold f).tracker r = f (s.tracker r) := by cases r <;> rfl

theorem foldl_told {step : State → Rig → State} {f : Tracker → Tracker} (h : ∀ s r, step s r = s.told f r) (s : State) :
    Rig.all.foldl step s = s.allTold f := by
  simp only [Rig.all, List.foldl, h]
  rw [State.allTold, rigStates_eq_tells, Desk.offers_append, Desk.offers_append]
  rfl

theorem PerRig.set_get_self {α : Type} (x : PerRig α) (r : Rig) : x.set r (x.get r) = x := by cases r <;> rfl

/-- A change that does not show. -/
theorem told_silent {f : Tracker → Tracker} {s : State} {r : Rig}
    (h : (s.tracker r).st = (f (s.tracker r)).st ∧ (s.tracker r).cued = (f (s.tracker r)).cued ∧
      (s.tracker r).causes = (f (s.tracker r)).causes) : s.told f r = s.setTracker r (f (s.tracker r)) := by
  have none_ : s.tells f r = [] := if_neg fun k => k.elim (· h.1) fun k => k.elim (· h.2.1) (· h.2.2)
  rw [State.told, none_]
  rfl

/-- A change that shows. -/
theorem told_shown {f : Tracker → Tracker} {s : State} {r : Rig}
    (h : (s.tracker r).st ≠ (f (s.tracker r)).st ∨ (s.tracker r).cued ≠ (f (s.tracker r)).cued ∨
      (s.tracker r).causes ≠ (f (s.tracker r)).causes) :
    s.told f r = raiseRigState r false (s.setTracker r (f (s.tracker r))) := by
  have one : s.tells f r = [.rigState r (s.port r).link (f (s.tracker r)).st (f (s.tracker r)).cued (f (s.tracker r)).tap
    (f (s.tracker r)).causes false] := if_pos h
  rw [State.told, one, raiseRigState, State.setTracker_tracker_self]
  rfl

theorem told_same {f : Tracker → Tracker} {s : State} {r : Rig} (h : f (s.tracker r) = s.tracker r) : s.told f r = s := by
  rw [told_silent (by rw [h]; exact ⟨rfl, rfl, rfl⟩), h]
  exact congrArg (fun x => { s with trackers := x }) (PerRig.set_get_self s.trackers r)

/-- CUED cleared (R80). -/
abbrev Tracker.uncued (t : Tracker) : Tracker := { t with cued := false }

theorem clearCued_told (s : State) (r : Rig) : clearCued s r = s.told Tracker.uncued r := by
  unfold clearCued
  cases h : (s.tracker r).cued
  · rw [told_same (by rw [Tracker.uncued, ← h])]
    rfl
  · rw [told_shown (.inr (.inl (by simp [h])))]
    rfl

theorem clearAllCued_eq (s : State) : clearAllCued s = s.allTold Tracker.uncued := foldl_told clearCued_told s

theorem Tracker.arm_causes (t : Tracker) : t.arm.causes = t.causes := by unfold Tracker.arm; split <;> rfl

theorem armTracker_told (s : State) (r : Rig) : armTracker s r = s.told Tracker.arm r := by
  unfold armTracker
  dsimp only
  split
  · rename_i h
    rw [told_shown (h.imp id .inl)]
  · rename_i h
    rw [told_silent (by rw [Tracker.arm_causes]; tauto)]

theorem armAll_eq (s : State) : armAll s = s.allTold Tracker.arm := foldl_told armTracker_told s

/-- A consumed jump at one tracker (R81). -/
def Tracker.jumped (span : Nat) (t : Tracker) : Tracker :=
  match t.st with
  | .ready | .verifying => { t with st := .verifying, verify := span, verifyDue := false }
  | _ => t

theorem Tracker.jumped_ready {t : Tracker} (h : t.st = .ready) (span : Nat) :
    t.jumped span = { t with st := .verifying, verify := span, verifyDue := false } := by
  unfold Tracker.jumped
  rw [h]

theorem Tracker.jumped_verifying {t : Tracker} (h : t.st = .verifying) (span : Nat) :
    t.jumped span = { t with verify := span, verifyDue := false } := by
  cases t
  cases h
  rfl

theorem Tracker.jumped_other {t : Tracker} (r : t.st ≠ .ready) (v : t.st ≠ .verifying) (span : Nat) :
    t.jumped span = t := by
  unfold Tracker.jumped
  split
  · exact absurd ‹_› r
  · exact absurd ‹_› v
  · rfl

theorem jumpTracker_told (span : Nat) (s : State) (h : s.settings.verify = span) (r : Rig) :
    jumpTracker s r = s.told (Tracker.jumped span) r := by
  unfold jumpTracker
  dsimp only
  split
  · rename_i st
    have e := Tracker.jumped_ready st span
    rw [told_shown (.inl (by rw [e, st]; nofun)), e, h]
  · rename_i st
    have e := Tracker.jumped_verifying st span
    rw [told_silent (by rw [e]; exact ⟨rfl, rfl, rfl⟩), e, h]
  · rename_i ready verifying
    rw [told_same (Tracker.jumped_other ready verifying span)]

theorem jumpAll_eq (s : State) : jumpAll s = s.allTold (Tracker.jumped s.settings.verify) := by
  simp only [jumpAll, Rig.all, List.foldl]
  rw [jumpTracker_told _ s rfl, jumpTracker_told s.settings.verify (s.told _ .A) rfl,
    jumpTracker_told s.settings.verify ((s.told _ .A).told _ .B) rfl, ← foldl_told (fun _ _ => rfl)]
  rfl

end Sys2Proof.Machine

end

section
/-! SUPPORT. ARM, DISARM, GO in PARKED, RELEASE and the edit report (R32 to R34, R39, R40). -/

namespace Sys2Proof.Machine

/-! ## The first rig that passes a test -/

/-- A source that is the first rig of a list to pass a test, or FALLBACK when none does. -/
theorem firstRig_some {p : Rig → Bool} {rs : List Rig} {r : Rig} (h : firstRig p rs = some r) :
    ∃ before after, rs = before ++ r :: after ∧ p r = true ∧ ∀ x ∈ before, p x = false := by
  obtain ⟨hr, before, after, rfl, none_⟩ := List.find?_eq_some_iff_append.1 h
  exact ⟨before, after, rfl, hr, fun x hx => by simpa using none_ x hx⟩

theorem firstRig_none {p : Rig → Bool} {rs : List Rig} (h : firstRig p rs = none) : ∀ r ∈ rs, p r = false := by
  simpa [firstRig] using h

/-! ## ARM (R32) -/

/-- The transport's fields at ARM. -/
def Transport.armed (t : Transport) : Transport :=
  { t with
    st := .parked, house := some ⟨0, 0, 0⟩, lead := none, jumpPending := false, plan := [], latch := false
    parkPending := false, endPending := false, cause := none }

theorem armTaken_eq {s : State} (fallback : ∀ g ∈ s.groups, g.source = .fallback) : armTaken s =
    raiseTransport .arm
      { s.allTold Tracker.arm with
        tr := s.tr.armed, groups := s.groups.map (Group.place s.armSource), tc := startHeld (setJump s.tc) } := by
  have placed : placeAll s.armSource (s.onTr Transport.armed) =
      { s.onTr Transport.armed with groups := s.groups.map (Group.place s.armSource) } := by
    rw [placeAll, writeGroups_eq, State.regrouped_of_fallback (s := s.onTr Transport.armed) fallback]
    rfl
  have armed : armTaken s = raiseTransport .arm ((armAll (placeAll s.armSource (s.onTr Transport.armed))).onTc
      fun t => startHeld (setJump t)) := rfl
  rw [armed, placed, armAll_eq]
  rfl

theorem Tracker.arm_ready {t : Tracker} (h : t.st = .ready ∨ t.st = .verifying) :
    t.arm = { t with cued := false, st := .searching, notFound := 0, verify := 0, verifyDue := false } := by
  unfold Tracker.arm
  rcases h with h | h <;> rw [h]

theorem Tracker.arm_settling {t : Tracker} (h : t.st = .settling) : t.arm = { t with cued := false, matchCount := 0 } := by
  cases t
  cases h
  rfl

theorem Tracker.arm_other {t : Tracker} (h : t.st = .offline ∨ t.st = .searching ∨ t.st = .failed ∨ t.st = .excluded) :
    t.arm = { t with cued := false } := by
  cases t
  rcases h with h | h | h | h <;> cases h <;> rfl

/-- The source of every group at ARM: the first rig of the preference list that is not EXCLUDED, or FALLBACK. -/
theorem armSource_cases (s : State) :
    (s.armSource = .fallback ∧ ∀ r ∈ s.prefs, (s.tracker r).st = .excluded) ∨
      ∃ r before after, s.armSource = .rig r ∧ s.prefs = before ++ r :: after ∧ (s.tracker r).st ≠ .excluded ∧
        ∀ x ∈ before, (s.tracker x).st = .excluded := by
  unfold State.armSource
  split
  · rename_i r hr
    obtain ⟨before, after, prefs, this, others⟩ := firstRig_some hr
    exact .inr ⟨r, before, after, rfl, prefs, by simpa [State.isExcluded] using this,
      fun x hx => by simpa [State.isExcluded] using others x hx⟩
  · rename_i none_
    exact .inl ⟨rfl, fun r hr => by simpa [State.isExcluded] using firstRig_none none_ r hr⟩

/-- Settles O26. -/
theorem armCommand : Obligations.ArmCommand := by
  intro s h
  refine ⟨fun other => ?_, fun idle none_ => ?_, fun idle entries groups fallback => ?_⟩
  · exact congrArg _ (event_command_same h (if_neg other))
  · exact congrArg _ (event_command_same h ((if_pos idle).trans (if_pos (by simpa using none_))))
  · have work : armWork s = (armTaken s, .accepted) := (if_pos idle).trans (if_neg (by simp [entries, groups]))
    rw [armTaken_eq fallback] at work
    have row := event_command (k := 0x20) (c := .transport) (w := armWork) h (by
      rw [work]
      simpa [raiseTransport, State.allTold] using h.2)
    rw [work] at row
    refine ⟨_, s.armSource, next_eq row, fun none_ => ?_, fun r some_ => ?_, rfl, rfl, fun r => ?_, rfl, ?_, rfl⟩
    · obtain ⟨-, excluded⟩ | ⟨r, _, _, e, -⟩ := armSource_cases s
      · exact excluded
      · cases none_.symm.trans e
    · obtain ⟨e, -⟩ | ⟨q, before, after, e, prefs, this, others⟩ := armSource_cases s
      · cases e.symm.trans some_
      · cases e.symm.trans some_
        exact ⟨before, after, prefs, this, others⟩
    · have armed := State.allTold_tracker Tracker.arm s r
      exact ⟨fun st => armed.trans (Tracker.arm_ready st), fun st => armed.trans (Tracker.arm_settling st),
        fun st => armed.trans (Tracker.arm_other st)⟩
    · change _ = (s.desk.offers (s.rigStates s.tracker (s.allTold Tracker.arm).tracker ++ _) s.block).answered _
      rw [funext (State.allTold_tracker Tracker.arm s), Desk.offers_append]
      rfl

/-! ## DISARM (R33) -/

theorem goIdle_eq (s : State) : goIdle s =
    { s.regrouped (s.groups.map (Group.place .fallback)) with tr := s.tr.toIdle, tc := tcIdle s.tc } := by
  rw [goIdle, placeAll, writeGroups_eq]
  rfl

theorem disarmWork_stopped {s : State} (h : s.tr.st = .parked ∨ s.tr.st = .ended) :
    disarmWork s = (raiseTransport .disarm (goIdle s), .accepted) := by
  unfold disarmWork
  rcases h with h | h <;> rw [h]

theorem State.regrouped_tracker_eq (gs : List Group) (s : State) : (s.regrouped gs).tracker = s.trackerAfter gs :=
  funext (State.regrouped_tracker gs s)

/-- Settles O27. -/
theorem disarmCommand : Obligations.DisarmCommand := by
  intro s h
  refine ⟨fun idle => ?_, fun running => ?_, fun stopped => ?_⟩
  · exact congrArg _ (event_command_same h (by rw [disarmWork, idle]))
  · refine congrArg _ (event_command_same h ?_)
    rcases State.not_stopped.1 running with st | st <;> rw [disarmWork, st]
  · have work := disarmWork_stopped stopped
    rw [goIdle_eq] at work
    have row := event_command (k := 0x21) (c := .transport) (w := disarmWork) h (by
      rw [work]
      simpa [raiseTransport, State.regrouped] using h.2)
    rw [work] at row
    refine ⟨_, next_eq row, rfl, rfl, rfl, fun r => State.regrouped_tracker _ s r, rfl, ?_, rfl⟩
    change _ = (s.desk.offers (s.rigStates s.tracker (s.regrouped (s.groups.map (Group.place .fallback))).tracker ++ _)
      s.block).answered _
    rw [State.regrouped_tracker_eq, Desk.offers_append]
    rfl

/-! ## RELEASE (R39) -/

theorem releasable_eq_true {s : State} : releasable s = true ↔
    ¬s.Stopped ∧ s.tr.parkPending = false ∧ s.tr.endPending = false ∧
      ∃ l e v, s.tr.lead = some l ∧ s.setList[l.pos.index]? = some e ∧ e.vamp = some v ∧ l.pos.offset < v.vampOut := by
  have running : (s.tr.st == .starting || s.tr.st == .rolling) = true ↔ ¬s.Stopped := by
    rw [State.not_stopped]
    simp
  unfold releasable
  rw [Bool.and_eq_true, Bool.and_eq_true, running]
  simp only [Transport.pendingEnd, Bool.not_eq_true', Bool.or_eq_false_iff, and_assoc]
  refine and_congr_right fun _ => and_congr_right fun _ => and_congr_right fun _ => ?_
  cases s.tr.lead with
  | none => simp
  | some l =>
    cases he : s.setList[l.pos.index]? with
    | none => simp [he]
    | some e => cases hv : e.vamp <;> simp [he, hv]

theorem releaseWork_refused {src : PressSource} {s : State} (h : ¬releasable s = true) :
    releaseWork src s = (s, .wrongState) := if_neg h

theorem releaseWork_latched {src : PressSource} {s : State} (h : releasable s = true) (latch : s.tr.latch = true) :
    releaseWork src s = (s, .accepted) := (if_pos h).trans (if_pos latch)

theorem releaseWork_taken {src : PressSource} {s : State} (h : releasable s = true) (latch : s.tr.latch = false) :
    releaseWork src s = (s.onTr fun t => { t with latch := true, cause := some ⟨.release, src, s.block⟩ }, .accepted) :=
  (if_pos h).trans (if_neg (by simp [latch]))

/-- Settles O32. -/
theorem releaseCommand : Obligations.ReleaseCommand := by
  intro s h
  refine ⟨fun no => ?_, fun may latch => ?_, fun may latch => ?_⟩
  · exact congrArg _ (event_command_same h (releaseWork_refused fun k => no (releasable_eq_true.1 k)))
  · exact congrArg _ (event_command_same h (releaseWork_latched (releasable_eq_true.2 may) latch))
  · have work := releaseWork_taken (src := .desk) (releasable_eq_true.2 may) latch
    have row := event_command (k := 0x26) (c := .transport) (w := releaseWork .desk) h (by rw [work]; exact h.2)
    rw [work] at row
    exact next_eq row

/-! ## GO in PARKED (R34, R155) -/

theorem State.anyCued_eq_true {s : State} : s.anyCued = true ↔ ∃ r, (s.tracker r).cued = true := by
  simp only [State.anyCued, Rig.all, List.any_cons, List.any_nil, Bool.or_false, Bool.or_eq_true, State.isCued]
  constructor
  · rintro (h | h | h)
    exacts [⟨_, h⟩, ⟨_, h⟩, ⟨_, h⟩]
  · rintro ⟨r, h⟩
    cases r
    exacts [.inl h, .inr (.inl h), .inr (.inr h)]

/-- The transport's fields at GO in PARKED. -/
def Transport.started (src : PressSource) (lead : Nat) (b : HouseBlock) (t : Transport) : Transport :=
  { t with
    st := .starting, lead := t.house.map fun p => jumpTarget p.index p.offset, jumpPending := true, countdown := lead
    latch := false, cause := some ⟨.go, src, b⟩, heard := false }

theorem goParked_eq (src : PressSource) (s : State) : goParked src s =
    raiseTransport .go
      { s.regrouped (s.groups.map (goGroup s.isCued s.prefs)) with tr := s.tr.started src s.settings.lead s.block } := by
  unfold goParked goReassign
  rw [writeGroups_eq]
  rfl

theorem goWork_parked {src : PressSource} {s : State} (h : s.tr.st = .parked) :
    goWork src s = if s.anyCued = true then (goParked src s, .accepted) else (s, .noSource) := by
  rw [goWork, h]

/-- The source of the FOLLOW groups that are on no CUED rig at GO: the first CUED rig of the list, or FALLBACK. -/
theorem goTarget_cases (s : State) :
    (goGroup.goTarget s.isCued s.prefs = .fallback ∧ ∀ r ∈ s.prefs, (s.tracker r).cued = false) ∨
      ∃ r before after, goGroup.goTarget s.isCued s.prefs = .rig r ∧ s.prefs = before ++ r :: after ∧
        (s.tracker r).cued = true ∧ ∀ x ∈ before, (s.tracker x).cued = false := by
  unfold goGroup.goTarget
  split
  · rename_i r hr
    obtain ⟨before, after, prefs, this, others⟩ := firstRig_some hr
    exact .inr ⟨r, before, after, rfl, prefs, this, others⟩
  · rename_i none_
    exact .inl ⟨rfl, firstRig_none none_⟩

theorem goGroup_pinned {cued : Rig → Bool} {prefs : List Rig} {g : Group} (h : g.gdef.follow = .pinned) :
    goGroup cued prefs g = g := if_neg (by simp [Group.follows, h])

theorem goGroup_cued {cued : Rig → Bool} {prefs : List Rig} {g : Group} {r : Rig} (h : g.gdef.follow = .follow)
    (src : g.source = .rig r) (hr : cued r = true) : goGroup cued prefs g = { g with uncovered := false } := by
  unfold goGroup
  rw [if_pos (by simp [Group.follows, h]), src]
  exact if_pos hr

theorem goGroup_moved {cued : Rig → Bool} {prefs : List Rig} {g : Group} (h : g.gdef.follow = .follow)
    (off : ∀ r, g.source = .rig r → cued r = false) :
    goGroup cued prefs g = { g with source := goGroup.goTarget cued prefs, uncovered := false } := by
  unfold goGroup
  rw [if_pos (by simp [Group.follows, h])]
  split
  · exact if_neg (by simp [off _ ‹_›])
  · rfl

/-- What GO in PARKED with a CUED rig leaves, from the desk or from another source of a press. -/
theorem goParked_spec (src : PressSource) (s : State) :
    let t := goParked src s
    t.groups = s.groups.map (goGroup s.isCued s.prefs) ∧
      t.tr = { s.tr with
        st := .starting
        lead := s.tr.house.map fun p =>
          ⟨⟨p.index, p.offset, 0⟩, { jump := true, segmentStart := p.offset == 0 }⟩
        jumpPending := true, countdown := s.settings.lead, latch := false, cause := some ⟨.go, src, s.block⟩
        heard := false } ∧
      t.desk = s.desk.offers
        (s.rigStates s.tracker t.tracker ++ [.transport .go .starting s.tr.house (some ⟨.go, src, s.block⟩)]) s.block ∧
      (∀ r, t.tracker r = s.trackerAfter t.groups r) ∧
      t.arb = { s.arb with requests := s.requestsAfter t.groups } ∧
      t = { s with tr := t.tr, groups := t.groups, trackers := t.trackers, arb := t.arb, desk := t.desk } := by
  intro t
  have e : t = _ := goParked_eq src s
  clear_value t
  subst e
  refine ⟨rfl, rfl, ?_, fun r => State.regrouped_tracker _ s r, rfl, rfl⟩
  change _ = s.desk.offers (s.rigStates s.tracker (s.regrouped (s.groups.map (goGroup s.isCued s.prefs))).tracker ++ _)
    s.block
  rw [State.regrouped_tracker_eq, Desk.offers_append]
  rfl

/-- What GO leaves of each group (R155). -/
theorem goGroups_spec (s : State) :
    ∃ src : Source, (src = .fallback → ∀ r ∈ s.prefs, (s.tracker r).cued = false) ∧
      (∀ r, src = .rig r → ∃ before after, s.prefs = before ++ r :: after ∧ (s.tracker r).cued = true ∧
        ∀ x ∈ before, (s.tracker x).cued = false) ∧
      ∀ (i : Nat) (g : Group), s.groups[i]? = some g →
        let gs := s.groups.map (goGroup s.isCued s.prefs)
        (g.gdef.follow = .pinned → gs[i]? = some g) ∧
        (g.gdef.follow = .follow → ∀ r, g.source = .rig r → (s.tracker r).cued = true →
          gs[i]? = some { g with uncovered := false }) ∧
        (g.gdef.follow = .follow → (∀ r, g.source = .rig r → (s.tracker r).cued = false) →
          gs[i]? = some { g with source := src, uncovered := false }) := by
  refine ⟨goGroup.goTarget s.isCued s.prefs, fun none_ => ?_, fun r some_ => ?_, fun i g hg => ?_⟩
  · obtain ⟨-, h⟩ | ⟨r, _, _, e, -⟩ := goTarget_cases s
    · exact h
    · cases none_.symm.trans e
  · obtain ⟨e, -⟩ | ⟨q, before, after, e, prefs, this, others⟩ := goTarget_cases s
    · cases e.symm.trans some_
    · cases e.symm.trans some_
      exact ⟨before, after, prefs, this, others⟩
  · have at_ : (s.groups.map (goGroup s.isCued s.prefs))[i]? = some (goGroup s.isCued s.prefs g) := by
      rw [List.getElem?_map, hg]
      rfl
    exact ⟨fun pinned => by rw [at_, goGroup_pinned pinned], fun follow r src hr => by rw [at_, goGroup_cued follow src hr],
      fun follow off => by rw [at_, goGroup_moved (cued := s.isCued) follow off]⟩

/-- Settles O28. -/
theorem goParkedHolds : Obligations.GoParked := by
  intro s p h parked house
  have work := goWork_parked (src := .desk) parked
  refine ⟨fun off => ?_, fun on => ?_⟩
  · exact congrArg _ (event_command_same h (work.trans (if_neg fun k => by
      obtain ⟨r, hr⟩ := State.anyCued_eq_true.1 k
      rw [off r] at hr
      cases hr)))
  · rw [if_pos (State.anyCued_eq_true.2 on)] at work
    obtain ⟨groups, tr, desk, trackers, arb, rest⟩ := goParked_spec .desk s
    have row := event_command (k := 0x22) (c := .transport) (w := goWork .desk) h (by
      rw [work]
      exact (congrArg Desk.replies desk).trans ((Desk.offers_replies ..).trans h.2))
    rw [work] at row
    obtain ⟨src, none_, some_, moved⟩ := goGroups_spec s
    refine ⟨_, src, next_eq row, none_, some_, ?_, ?_, ?_, ?_, trackers, arb, ?_⟩
    · exact (congrArg List.length groups).trans (by simp)
    · intro i g hg
      change (_ → (goParked .desk s).groups[i]? = _) ∧ (_ → ∀ r, _ → _ → (goParked .desk s).groups[i]? = _) ∧
        (_ → _ → (goParked .desk s).groups[i]? = _)
      rw [groups]
      exact moved i g hg
    · refine tr.trans ?_
      rw [house]
      rfl
    · refine (congrArg (Desk.answered _) desk).trans ?_
      change _ = (s.desk.offers (s.rigStates s.tracker (goParked .desk s).tracker ++ _) s.block).answered _
      rw [summaryOf_transport, State.transportSummary, tr, ← house]
    · exact congrArg (fun u : State => u.answered 0x22 .accepted (summaryOf .transport (goParked .desk s))) rest

end Sys2Proof.Machine

end

section
/-! SUPPORT. The re-resolution of the house position after an edit (R40), and LOCATE in PARKED and ENDED (R36). -/

namespace Sys2Proof.Machine

/-! ## Groups that stay -/

theorem State.trackerAfter_same (s : State) (r : Rig) : s.trackerAfter s.groups r = s.tracker r :=
  if_neg fun ⟨_, ⟨g, hg, e⟩, none_⟩ => none_ g hg e

theorem State.requestsAfter_same (s : State) : s.requestsAfter s.groups = s.arb.requests := by
  refine List.filter_eq_self.2 fun q _ => ?_
  dsimp only
  cases s.groups.any fun g => g.gdef.follow == .follow && g.source == .rig q.rig <;> simp

theorem rigStates_same (s : State) (t : Rig → Tracker) : s.rigStates t t = [] := by simp [State.rigStates]

theorem State.regrouped_same (s : State) : s.regrouped s.groups = s := by
  have same : s.trackerAfter s.groups = s.tracker := funext s.trackerAfter_same
  rw [State.regrouped, s.requestsAfter_same, same, rigStates_same]
  rfl

/-! ## The re-resolution (R40) -/

/-- What a re-resolution that changes the house position leaves: groups and SLIPs, CUED cleared, then its notice. -/
def State.resolved (gs : List Group) (st : TState) (house : Option Pos) (tc : Timecode) (s : State) : State :=
  raiseTransport .edit
    { (s.regrouped gs).allTold Tracker.uncued with tr := { s.tr with st := st, house := house }, tc := tc }

theorem resolved_spec (gs : List Group) (st : TState) (house : Option Pos) (tc : Timecode) (s : State) :
    let t := s.resolved gs st house tc
    t.groups = gs ∧ t.tc = tc ∧ t.tr = { s.tr with st := st, house := house } ∧
      (∀ r, t.tracker r = { s.trackerAfter t.groups r with cued := false }) ∧
      t.arb = { s.arb with requests := s.requestsAfter t.groups } ∧
      t.desk = s.desk.offers
        (s.rigStates s.tracker (s.trackerAfter t.groups) ++ s.rigStates (s.trackerAfter t.groups) t.tracker ++
          [.transport .edit st house s.tr.cause]) s.block ∧
      t = { s with tr := t.tr, trackers := t.trackers, groups := t.groups, arb := t.arb, tc := t.tc, desk := t.desk } := by
  intro t
  have trackers : t.tracker = fun r => (s.trackerAfter gs r).uncued := by
    funext r
    exact (State.allTold_tracker _ _ r).trans (congrArg Tracker.uncued (State.regrouped_tracker gs s r))
  refine ⟨rfl, rfl, rfl, fun r => congrFun trackers r, rfl, ?_, rfl⟩
  have shown : (s.regrouped gs).rigStates (s.regrouped gs).tracker (fun r => ((s.regrouped gs).tracker r).uncued) =
      s.rigStates (s.trackerAfter gs) t.tracker := by
    rw [trackers, State.regrouped_tracker_eq]
    rfl
  change ((s.regrouped gs).desk.offers ((s.regrouped gs).rigStates _ _) s.block).offers [_] s.block = _
  rw [shown, ← Desk.offers_append]
  change (s.desk.offers _ s.block).offers _ s.block = _
  rw [← Desk.offers_append, ← List.append_assoc]
  rfl

theorem resolveTo_eq (st : TState) (p : Pos) (s : State) :
    resolveTo st p s = s.resolved s.groups st (some p) (setJump s.tc) := by
  unfold resolveTo State.resolved
  rw [clearAllCued_eq, State.regrouped_same]
  rfl

theorem resolveIdle_eq (s : State) : raiseTransport .edit (clearAllCued (goIdle s)) =
    s.resolved (s.groups.map (Group.place .fallback)) .idle none (tcIdle s.tc) := by
  rw [goIdle_eq, clearAllCued_eq]
  rfl

theorem editReport_eq {s : State} {p : Pos} (e : Edit) (house : s.tr.house = some p)
    (stopped : s.tr.st = .parked ∨ s.tr.st = .ended) : editReport e s = resolveAt e p s := by
  unfold editReport
  rw [if_pos stopped, house]

theorem Edit.disturbs_iff (e : Edit) (h : Nat) : e.disturbs h = true ↔ e = .replace h ∨ ∃ i, i ≤ h ∧ e = .drop i := by
  cases e <;> simp [Edit.disturbs]

/-- Settles O22: the conditions of R40 in order. -/
theorem editReportHolds : Obligations.EditReport := by
  intro e h o p s house
  refine ⟨fun parked ended => if_neg fun k => k.elim parked ended, fun stopped => ?_⟩
  dsimp only
  rw [editReport_eq e house stopped]
  refine ⟨fun empty => ?_, fun last tail beyond => ?_, fun x at_ => ?_⟩
  · have work : resolveAt e ⟨h, o, p⟩ s = s.resolved (s.groups.map (Group.place .fallback)) .idle none (tcIdle s.tc) := by
      rw [resolveAt, empty]
      exact resolveIdle_eq s
    rw [work]
    obtain ⟨groups, tc, raised⟩ := resolved_spec (s.groups.map (Group.place .fallback)) .idle none (tcIdle s.tc) s
    exact ⟨raised, groups, tc⟩
  · have work : resolveAt e ⟨h, o, p⟩ s =
        s.resolved s.groups .ended (some ⟨s.setList.length - 1, last.length - 1, 0⟩) (setJump s.tc) := by
      rw [resolveAt, tail]
      dsimp only
      rw [List.getElem?_eq_none beyond]
      exact resolveTo_eq ..
    rw [work]
    obtain ⟨groups, tc, raised⟩ :=
      resolved_spec s.groups .ended (some ⟨s.setList.length - 1, last.length - 1, 0⟩) (setJump s.tc) s
    exact ⟨raised, groups, tc⟩
  · obtain ⟨last, tail⟩ : ∃ last, s.setList.getLast? = some last := by
      refine Option.ne_none_iff_exists'.1 fun none_ => ?_
      rw [List.getLast?_eq_none_iff.1 none_] at at_
      cases at_
    have work : resolveAt e ⟨h, o, p⟩ s =
        if (e.disturbs h || decide (x.length ≤ o)) = true then s.resolved s.groups s.tr.st (some ⟨h, 0, 0⟩) (setJump s.tc)
        else s := by
      rw [resolveAt, tail]
      dsimp only
      rw [at_, ← resolveTo_eq]
    rw [work]
    refine ⟨fun moved => ?_, fun clear inside => ?_⟩
    · rw [if_pos (by simpa [Edit.disturbs_iff] using moved)]
      obtain ⟨groups, tc, raised⟩ := resolved_spec s.groups s.tr.st (some ⟨h, 0, 0⟩) (setJump s.tc) s
      exact ⟨raised, groups, tc⟩
    · refine if_neg fun k => ?_
      rw [Bool.or_eq_true, Edit.disturbs_iff, decide_eq_true_eq] at k
      exact k.elim clear (Nat.not_le.2 inside)

end Sys2Proof.Machine

end

section
/-! SUPPORT. The append (R26 to R28), and the catch-up appends of R35 and R37. -/

namespace Sys2Proof.Machine

/-! ## One append (R26) -/

section

variable {l : LeadPos} {e : SegmentEntry} {s : State}

theorem append_jump (lead : s.tr.lead = some l) (entry : s.setList[l.pos.index]? = some e)
    (jump : s.tr.jumpPending = true) (c : Nat) : append c s = s.onTr fun t =>
      { t.push ⟨l.pos.index, e.code, l.pos.offset, 0, { jump := true, segmentStart := l.pos.offset == 0 }⟩ with
        jumpPending := false } := by
  rw [append, lead]
  dsimp only
  rw [if_pos jump, appendJump, State.codeAt_of_getElem? entry]
  rfl

theorem append_next (lead : s.tr.lead = some l) (entry : s.setList[l.pos.index]? = some e)
    (jump : s.tr.jumpPending = false) (c : Nat) : append c s = appendNext c l e s := by
  rw [append, lead]
  dsimp only
  rw [if_neg (by simp [jump]), entry]

theorem appendNext_plain (passed : ∀ v, e.vamp = some v → l.pos.offset + 1 ≠ v.vampOut) (c : Nat) :
    appendNext c l e s = appendPlain l.pos.index l.pos.offset l.pos.pass e s := by
  unfold appendNext
  split
  · exact if_neg (passed _ ‹_›)
  · rfl

theorem appendNext_loop {v : Vamp} (vamp : e.vamp = some v) (at_ : l.pos.offset + 1 = v.vampOut)
    (latch : s.tr.latch = false) (limit : l.pos.pass + 1 < v.limit) (c : Nat) : appendNext c l e s =
      raiseDecision l.pos.index e.code .loop c
        (s.onTr (·.push ⟨l.pos.index, e.code, v.vampIn, l.pos.pass + 1, { loop := true }⟩)) := by
  rw [appendNext, vamp]
  exact (if_pos at_).trans (if_pos ⟨latch, limit⟩)

theorem appendNext_passed {v : Vamp} (vamp : e.vamp = some v) (at_ : l.pos.offset + 1 = v.vampOut)
    (passed : s.tr.latch = true ∨ v.limit ≤ l.pos.pass + 1) (c : Nat) : appendNext c l e s =
      raiseDecision l.pos.index e.code (if s.tr.latch = true then .release else .limit) c
        (appendPlain l.pos.index l.pos.offset l.pos.pass e (s.onTr fun t => { t with latch := false })) := by
  rw [appendNext, vamp]
  refine (if_pos at_).trans (if_neg fun ⟨latch, limit⟩ => ?_)
  rw [latch] at passed
  exact passed.elim nofun (Nat.not_le.2 limit)

end

section

variable {i o p : Nat} {e : SegmentEntry} {s : State}

theorem appendPlain_inside (h : o + 1 < e.length) :
    appendPlain i o p e s = s.onTr (·.push ⟨i, e.code, o + 1, p, {}⟩) := if_pos h

theorem appendPlain_follow {n : SegmentEntry} (h : ¬o + 1 < e.length) (next : e.endAction = .next)
    (entry : s.setList[i + 1]? = some n) :
    appendPlain i o p e s = s.onTr (·.push ⟨i + 1, n.code, 0, 0, { segmentStart := true }⟩) := by
  rw [appendPlain, if_neg h, if_pos ⟨next, (List.getElem?_eq_some_iff.1 entry).1⟩, State.codeAt_of_getElem? entry]

theorem appendPlain_end (h : ¬o + 1 < e.length) (last : e.endAction = .park ∨ s.setList.length ≤ i + 1) :
    appendPlain i o p e s = s.onTr (·.setPending (decide (i + 1 = s.setList.length))) := by
  rw [appendPlain, if_neg h, if_neg]
  rintro ⟨next, inside⟩
  rw [next] at last
  exact last.elim nofun (Nat.not_le.2 inside)

end

theorem Transport.setPending_eq {t : Transport} {l : LeadPos} (lead : t.lead = some l) (isEnd : Bool) :
    t.setPending isEnd = { t with
      plan := t.plan.modify (t.plan.length - 1) fun x => { x with marks := { x.marks with last := true } }
      lead := some ⟨l.pos, { l.marks with last := true }⟩
      endPending := t.endPending || isEnd, parkPending := t.parkPending || !isEnd } := by
  cases isEnd <;> simp [Transport.setPending, Transport.markLast, lead]

/-- A decision names the pass of the tail entry. -/
theorem raiseDecision_eq {s : State} {x : PlanEntry} (tail : s.tr.plan.getLast? = some x) (i code : Nat) (d : Decision)
    (c : Nat) : raiseDecision i code d c s =
      raise (.vampDecided i code d x.pass (s.block + BitVec.ofNat 32 (c + s.tr.plan.length))) s := by
  have pass : s.tr.tailPass = x.pass := by rw [Transport.tailPass, tail]; rfl
  rw [raiseDecision, pass]
  rfl

theorem raiseDecision_push (s : State) (x : PlanEntry) (i code : Nat) (d : Decision) (c : Nat) :
    raiseDecision i code d c (s.onTr (·.push x)) =
      raise (.vampDecided i code d x.pass (s.block + BitVec.ofNat 32 (c + (s.tr.plan ++ [x]).length)))
        (s.onTr (·.push x)) :=
  raiseDecision_eq (s := s.onTr (·.push x)) (by simp [State.onTr, Transport.push]) i code d c

theorem modify_last_getLast? {α : Type} (f : α → α) (l : List α) :
    (l.modify (l.length - 1) f).getLast? = l.getLast?.map f := by
  simp [List.getLast?_eq_getElem?]

/-- Settles O35: each case of the append, by the equations above. -/
theorem appendRules : Obligations.AppendRules := by
  intro c l e s lead entry
  have limit_eq (v : Vamp) : (match v.passLimit with | some n => n | none => 255) = v.limit := by
    unfold Vamp.limit
    cases v.passLimit <;> rfl
  refine ⟨fun jump => append_jump lead entry jump c, fun quiet => ?_⟩
  have next := append_next lead entry quiet c
  refine ⟨fun v vamp at_ latch limit => ?_, fun v vamp at_ latch inside => ?_, fun v vamp at_ latch limit inside => ?_,
    fun passed inside => ?_, fun n passed at_ act follows => ?_, fun passed at_ act => ?_,
    fun v vamp at_ end_ crossed => ⟨fun n act follows => ?_, fun x act tail => ?_⟩⟩
  · rw [next, appendNext_loop vamp at_ latch (limit_eq v ▸ limit), raiseDecision_push]
    rfl
  · rw [next, appendNext_passed vamp at_ (.inl latch), if_pos latch, appendPlain_inside inside, raiseDecision_push]
    rfl
  · have same : (s.onTr fun t => { t with latch := false }) = s := by
      unfold State.onTr
      rw [← latch]
    rw [next, appendNext_passed vamp at_ (.inr (limit_eq v ▸ limit)), if_neg (by simp [latch]), same,
      appendPlain_inside inside, raiseDecision_push]
    rfl
  · rw [next, appendNext_plain passed, appendPlain_inside inside]
    rfl
  · rw [next, appendNext_plain passed, appendPlain_follow (by omega) act follows]
    rfl
  · have done : append c s = s.onTr (·.setPending (decide (l.pos.index + 1 = s.setList.length))) := by
      rw [next, appendNext_plain passed, appendPlain_end (by omega) (act.imp id fun h => Nat.le_of_eq h.symm)]
    rw [done]
    have tr := Transport.setPending_eq lead (decide (l.pos.index + 1 = s.setList.length))
    refine ⟨?_, fun x tail => ?_, ?_, fun last => ?_, fun more => ?_, congrArg (fun t => { s with tr := t }) tr⟩
    · rw [State.onTr, tr]
      exact List.length_modify ..
    · rw [State.onTr, tr] at tail
      dsimp only at tail
      rw [modify_last_getLast?] at tail
      obtain ⟨y, -, rfl⟩ := Option.map_eq_some_iff.1 tail
      rfl
    · rw [State.onTr, tr]
      rfl
    · rw [State.onTr, tr]
      dsimp only
      rw [decide_eq_true last]
      exact ⟨Bool.or_true _, Bool.or_false _⟩
    · rw [State.onTr, tr]
      dsimp only
      rw [decide_eq_false more]
      exact ⟨Bool.or_true _, Bool.or_false _⟩
  · have follow := appendPlain_follow (i := l.pos.index) (o := l.pos.offset) (p := l.pos.pass)
      (s := s.onTr fun t => { t with latch := false }) (by omega) act follows
    rw [next, appendNext_passed vamp at_ (crossed.imp id (limit_eq v ▸ ·)), follow, raiseDecision_push]
    rfl
  · have ended := appendPlain_end (i := l.pos.index) (o := l.pos.offset) (p := l.pos.pass)
      (s := s.onTr fun t => { t with latch := false }) (by omega) (act.imp id fun h => Nat.le_of_eq h.symm)
    have tr := Transport.setPending_eq (t := { s.tr with latch := false }) lead
      (decide (l.pos.index + 1 = s.setList.length))
    have done := congrArg (fun t => { s with tr := t }) tr
    have marked := (modify_last_getLast? (fun x : PlanEntry => { x with marks := { x.marks with last := true } })
      s.tr.plan).trans (congrArg _ tail)
    rw [next, appendNext_passed vamp at_ (crossed.imp id (limit_eq v ▸ ·)), ended]
    refine (congrArg (raiseDecision _ _ _ _) done).trans ((raiseDecision_eq marked ..).trans ?_)
    dsimp only

end Sys2Proof.Machine

end

section
/-! SUPPORT. The catch-up appends (R35, R37): what each leaves, and that they end with a full plan or a new pending. -/

namespace Sys2Proof.Machine

/-! ## What appends leave -/

/-- Appends change the plan, the lead, the jump, the latch and the pendings, and offer Notices. -/
structure Planned (s t : State) : Prop where
  tr : t.tr = { s.tr with
    plan := t.tr.plan, lead := t.tr.lead, jumpPending := t.tr.jumpPending, latch := t.tr.latch
    parkPending := t.tr.parkPending, endPending := t.tr.endPending }
  frame : t = { s with tr := t.tr, desk := t.desk }
  replies : t.desk.replies = s.desk.replies
  latch : s.tr.latch = false → t.tr.latch = false
  jump : s.tr.jumpPending = false → t.tr.jumpPending = false

theorem Planned.refl (s : State) : Planned s s := ⟨rfl, rfl, rfl, id, id⟩

theorem Planned.trans {s t u : State} (h : Planned s t) (k : Planned t u) : Planned s u where
  tr := by rw [k.tr, h.tr]
  frame := by rw [k.frame, h.frame]
  replies := k.replies.trans h.replies
  latch := k.latch ∘ h.latch
  jump := k.jump ∘ h.jump

theorem Planned.push (x : PlanEntry) (s : State) : Planned s (s.onTr (·.push x)) := ⟨rfl, rfl, rfl, id, id⟩

theorem Planned.setPending (b : Bool) (s : State) : Planned s (s.onTr (·.setPending b)) := by
  cases b <;> exact ⟨rfl, rfl, rfl, id, id⟩

theorem Planned.unlatch (s : State) : Planned s (s.onTr fun t => { t with latch := false }) :=
  ⟨rfl, rfl, rfl, fun _ => rfl, id⟩

theorem Planned.decision (i code : Nat) (d : Decision) (c : Nat) (s : State) : Planned s (raiseDecision i code d c s) :=
  ⟨rfl, rfl, raise_replies _ s, id, id⟩

theorem Planned.plain (i o p : Nat) (e : SegmentEntry) (s : State) : Planned s (appendPlain i o p e s) := by
  unfold appendPlain
  split
  · exact .push _ s
  · split
    · exact .push _ s
    · exact .setPending _ s

theorem append_planned (c : Nat) (s : State) : Planned s (append c s) := by
  unfold append
  split
  · exact .refl s
  · split
    · exact ⟨rfl, rfl, rfl, id, fun _ => rfl⟩
    · split
      · unfold appendNext
        dsimp only
        split
        · split
          · split
            · exact (Planned.push _ s).trans (.decision ..)
            · exact ((Planned.unlatch s).trans (.plain ..)).trans (.decision ..)
          · exact .plain ..
        · exact .plain ..
      · exact .refl s

theorem catchUp_planned : ∀ (n : Nat) (s : State), Planned s (catchUp n s)
  | 0, s => .refl s
  | n + 1, s => by
    unfold catchUp
    split
    · exact .refl s
    · exact (append_planned _ s).trans (catchUp_planned n _)

/-! ## One append amid a run -/

/-- No pending end stands, and the lead position lies in an entry of the set list: it is the tail of the plan, or the target
of a pending jump. -/
structure Following (s : State) : Prop where
  lead : ∃ l e, s.tr.lead = some l ∧ s.setList[l.pos.index]? = some e ∧
    (s.tr.jumpPending = false → ∃ x, s.tr.plan.getLast? = some x ∧ x.index = l.pos.index)
  park : s.tr.parkPending = false
  end_ : s.tr.endPending = false

/-- The mark LAST set on the tail of a plan. -/
def markedLast (plan : List PlanEntry) : List PlanEntry :=
  plan.modify (plan.length - 1) fun x => { x with marks := { x.marks with last := true } }

/-- A pending has been set anew: exactly one, at a tail marked LAST, the end at the last entry of the set list (R28). -/
structure NewPending (s : State) : Prop where
  one : s.tr.parkPending = !s.tr.endPending
  tail : ∃ x, s.tr.plan.getLast? = some x ∧ x.marks.last = true ∧
    (s.tr.endPending = true ↔ x.index + 1 = s.setList.length)

/-- The plan is longer by one entry and the appends may go on, or a pending is set anew and the plan keeps its length. -/
def Appends (plan : List PlanEntry) (t : State) : Prop :=
  (Following t ∧ ∃ y, t.tr.plan = plan ++ [y]) ∨ (NewPending t ∧ t.tr.plan = markedLast plan)

theorem following_push {s : State} {x : PlanEntry} {e : SegmentEntry} (entry : s.setList[x.index]? = some e)
    (h : Following s) : Following (s.onTr (·.push x)) where
  lead := ⟨_, e, rfl, entry, fun _ => ⟨x, by simp [State.onTr, Transport.push], rfl⟩⟩
  park := h.park
  end_ := h.end_

theorem Following.unlatch {s : State} (h : Following s) : Following (s.onTr fun t => { t with latch := false }) :=
  ⟨h.lead, h.park, h.end_⟩

theorem Appends.raise {plan : List PlanEntry} {t : State} (h : Appends plan t) (b : NoticeBody) :
    Appends plan (raise b t) :=
  h.imp (fun ⟨f, y⟩ => ⟨⟨f.lead, f.park, f.end_⟩, y⟩) fun ⟨n, y⟩ => ⟨⟨n.one, n.tail⟩, y⟩

/-- What tests 3 to 5 of R26 come to. -/
theorem appendPlain_appends {s : State} {i o p : Nat} {e : SegmentEntry} (h : Following s) (entry : s.setList[i]? = some e)
    (lead : s.tr.lead ≠ none) (at_ : ∃ x, s.tr.plan.getLast? = some x ∧ x.index = i) :
    Appends s.tr.plan (appendPlain i o p e s) := by
  by_cases inside : o + 1 < e.length
  · rw [appendPlain_inside inside]
    exact .inl ⟨following_push entry h, _, rfl⟩
  · by_cases more : e.endAction = .next ∧ i + 1 < s.setList.length
    · obtain ⟨next, lt⟩ := more
      have follows := List.getElem?_eq_getElem lt
      rw [appendPlain_follow inside next follows]
      exact .inl ⟨following_push follows h, _, rfl⟩
    · have last : e.endAction = .park ∨ s.setList.length ≤ i + 1 := by
        cases act : e.endAction with
        | park => exact .inl rfl
        | next => exact .inr (Nat.not_lt.1 fun lt => more ⟨act, lt⟩)
      obtain ⟨l, lead⟩ := Option.ne_none_iff_exists'.1 lead
      obtain ⟨x, tail, index⟩ := at_
      have tr := Transport.setPending_eq lead (decide (i + 1 = s.setList.length))
      rw [appendPlain_end inside last, State.onTr, tr]
      refine .inr ⟨⟨?_, _, (modify_last_getLast? _ _).trans (congrArg _ tail), rfl, ?_⟩, rfl⟩
      · simp [h.park, h.end_]
      · simp [h.end_, index]

/-- One append amid a run. -/
theorem append_appends {s : State} (h : Following s) (c : Nat) : Appends s.tr.plan (append c s) := by
  obtain ⟨l, e, lead, entry, tail⟩ := h.lead
  cases jump : s.tr.jumpPending with
  | true =>
    rw [append_jump lead entry jump]
    exact .inl ⟨⟨⟨_, e, rfl, entry, fun _ => ⟨_, List.getLast?_concat .., rfl⟩⟩, h.park, h.end_⟩, _, rfl⟩
  | false =>
    have at_ := tail jump
    have here : s.tr.lead ≠ none := by simp [lead]
    rw [append_next lead entry jump]
    by_cases crossing : ∃ v, e.vamp = some v ∧ l.pos.offset + 1 = v.vampOut
    · obtain ⟨v, vamp, crossed⟩ := crossing
      by_cases loop : s.tr.latch = false ∧ l.pos.pass + 1 < v.limit
      · rw [appendNext_loop vamp crossed loop.1 loop.2]
        exact Appends.raise (.inl ⟨following_push entry h, _, rfl⟩) _
      · have passed : s.tr.latch = true ∨ v.limit ≤ l.pos.pass + 1 := by
          cases latch : s.tr.latch with
          | true => exact .inl rfl
          | false => exact .inr (Nat.not_lt.1 fun lt => loop ⟨latch, lt⟩)
        rw [appendNext_passed vamp crossed passed]
        exact Appends.raise (appendPlain_appends h.unlatch entry here at_) _
    · rw [appendNext_plain fun v vamp crossed => crossing ⟨v, vamp, crossed⟩]
      exact appendPlain_appends h entry here at_

/-! ## The catch-up (R35, R37) -/

theorem Nat.repeat_inner {α : Type} (f : α → α) : ∀ (k : Nat) (a : α), Nat.repeat f k (f a) = Nat.repeat f (k + 1) a
  | 0, _ => rfl
  | k + 1, a => congrArg f (Nat.repeat_inner f k a)

theorem CaughtUp.step {s t : State} (h : CaughtUp (append s.tr.countdown s) t) : CaughtUp s t := by
  have planned := append_planned s.tr.countdown s
  have countdown : (append s.tr.countdown s).tr.countdown = s.tr.countdown := congrArg (·.countdown) planned.tr
  have lead : (append s.tr.countdown s).settings = s.settings := congrArg (·.settings) planned.frame
  have list : (append s.tr.countdown s).setList = s.setList := congrArg (·.setList) planned.frame
  obtain ⟨⟨k, repeated⟩, ends⟩ := h
  rw [countdown, Nat.repeat_inner] at repeated
  rw [lead, list] at ends
  exact ⟨⟨k + 1, repeated⟩, ends⟩

/-- With fuel for the entries that are missing, the catch-up ends with a full plan or a new pending. -/
theorem catchUp_caughtUp : ∀ (n : Nat) {s : State}, Following s → s.tr.plan.length ≤ s.settings.lead →
    s.settings.lead ≤ s.tr.plan.length + n → CaughtUp s (catchUp n s)
  | 0, s, h, room, fuel => ⟨⟨0, rfl⟩, .inl ⟨Nat.le_antisymm room fuel, h.park, h.end_⟩⟩
  | n + 1, s, h, room, fuel => by
    unfold catchUp
    by_cases full : s.settings.lead ≤ s.tr.plan.length
    · rw [if_pos (by simp [full])]
      exact ⟨⟨0, rfl⟩, .inl ⟨Nat.le_antisymm room full, h.park, h.end_⟩⟩
    · rw [if_neg (by simp [Transport.pendingEnd, h.park, h.end_, full])]
      refine CaughtUp.step ?_
      have lead : (append s.tr.countdown s).settings = s.settings := congrArg (·.settings) (append_planned _ s).frame
      obtain ⟨f, y, plan⟩ | ⟨p, plan⟩ := append_appends h s.tr.countdown
      · refine catchUp_caughtUp n f ?_ ?_ <;> rw [plan, lead, List.length_append, List.length_singleton] <;> omega
      · have stopped : catchUp n (append s.tr.countdown s) = append s.tr.countdown s := by
          cases n with
          | zero => rfl
          | succ n => exact if_pos (by simp [Transport.pendingEnd, p.one])
        rw [stopped]
        refine ⟨⟨0, rfl⟩, .inr ⟨?_, p.one, p.tail⟩⟩
        rw [plan, lead, markedLast, List.length_modify]
        omega

/-- The plan starts with some entries and an entry after them, of which only the mark LAST may have changed. -/
def Heads (pre : List PlanEntry) (x : PlanEntry) (plan : List PlanEntry) : Prop :=
  ∃ m rest, plan = pre ++ { x with marks := m } :: rest ∧ m.segmentStart = x.marks.segmentStart ∧ m.jump = x.marks.jump

theorem Heads.markedLast {pre : List PlanEntry} {x : PlanEntry} {plan : List PlanEntry} (h : Heads pre x plan) :
    Heads pre x (markedLast plan) := by
  obtain ⟨m, rest, rfl, start, jump⟩ := h
  have at_ : (pre ++ { x with marks := m } :: rest).length - 1 = pre.length + rest.length := by simp
  rw [Machine.markedLast, at_, List.modify, List.modifyTailIdx_add]
  cases rest with
  | nil => exact ⟨_, [], rfl, start, jump⟩
  | cons y ys => exact ⟨m, _, rfl, start, jump⟩

theorem Heads.appends {pre : List PlanEntry} {x : PlanEntry} {plan : List PlanEntry} {t : State} (h : Heads pre x plan)
    (a : Appends plan t) : Heads pre x t.tr.plan := by
  obtain ⟨-, y, e⟩ | ⟨-, e⟩ := a
  · obtain ⟨m, rest, rfl, marks⟩ := h
    exact ⟨m, rest ++ [y], by simp [e], marks⟩
  · exact e ▸ h.markedLast

theorem catchUp_heads {pre : List PlanEntry} {x : PlanEntry} : ∀ (n : Nat) {s : State}, Following s →
    Heads pre x s.tr.plan → Heads pre x (catchUp n s).tr.plan
  | 0, _, _, h => h
  | n + 1, s, f, h => by
    unfold catchUp
    split
    · exact h
    · have a := append_appends f s.tr.countdown
      have heads := h.appends a
      obtain ⟨f, -⟩ | ⟨p, -⟩ := a
      · exact catchUp_heads n f heads
      · cases n with
        | zero => exact heads
        | succ n =>
          rw [catchUp, if_pos (by simp [Transport.pendingEnd, p.one])]
          exact heads

/-! ## GO in ROLLING (R35) -/

/-- The plan of a run whose park is cancelled: the tail without LAST. -/
def unmarkedLast (plan : List PlanEntry) : List PlanEntry :=
  plan.modify (plan.length - 1) fun x => { x with marks := { x.marks with last := false } }

/-- A run whose park GO has cancelled, the next entry appended (R35). -/
def State.resumed (src : PressSource) (i code : Nat) (s : State) : State :=
  { s with tr := { s.tr with
    plan := unmarkedLast s.tr.plan ++ [⟨i + 1, code, 0, 0, { segmentStart := true }⟩]
    lead := some ⟨⟨i + 1, 0, 0⟩, { segmentStart := true }⟩
    parkPending := false, cause := some ⟨.go, src, s.block⟩ } }

theorem goCancel_eq {src : PressSource} {s : State} {l : LeadPos} {e : SegmentEntry} (lead : s.tr.lead = some l)
    (entry : s.setList[l.pos.index + 1]? = some e) :
    goCancel src s = catchUp Config.ringSlots (s.resumed src l.pos.index e.code) := by
  unfold goCancel
  simp only [State.onTr, Transport.markLast, lead, Option.map_some, parkSuccessor]
  rw [State.codeAt_of_getElem? (s := _) entry]
  rfl

theorem resumed_following {src : PressSource} {s : State} {i : Nat} {e : SegmentEntry} (end_ : s.tr.endPending = false)
    (entry : s.setList[i + 1]? = some e) : Following (s.resumed src i e.code) where
  lead := ⟨_, e, rfl, entry, fun _ => ⟨_, List.getLast?_concat .., rfl⟩⟩
  park := rfl
  end_ := end_

theorem resumed_length (src : PressSource) (i code : Nat) (s : State) :
    (s.resumed src i code).tr.plan.length = s.tr.plan.length + 1 := by
  simp [State.resumed, unmarkedLast]

theorem goCancel_caughtUp {src : PressSource} {s : State} {l : LeadPos} {e : SegmentEntry} (end_ : s.tr.endPending = false)
    (lead : s.tr.lead = some l) (entry : s.setList[l.pos.index + 1]? = some e) (room : s.tr.plan.length < s.settings.lead)
    (bound : s.settings.lead ≤ 120) : CaughtUp (s.resumed src l.pos.index e.code) (goCancel src s) := by
  have fuel : (120 : Nat) ≤ Config.ringSlots := by decide
  rw [goCancel_eq lead entry]
  refine catchUp_caughtUp _ (resumed_following end_ entry) ?_ ?_ <;> rw [resumed_length]
  · exact room
  · change s.settings.lead ≤ _
    omega

/-- What a cancelled park leaves of the transport beside plan, lead and pendings. -/
theorem goCancel_tr (src : PressSource) (s : State) :
    (goCancel src s).tr.st = s.tr.st ∧ (goCancel src s).tr.house = s.tr.house ∧
      (goCancel src s).tr.cause = some ⟨.go, src, s.block⟩ ∧ (goCancel src s).desk.replies = s.desk.replies ∧
      goCancel src s = { s with tr := (goCancel src s).tr, desk := (goCancel src s).desk } := by
  unfold goCancel
  dsimp only
  split
  · have p := catchUp_planned Config.ringSlots
      ((s.onTr fun t => { t.markLast false with parkPending := false, cause := some ⟨.go, src, s.block⟩ }).onTr
        (·.push (parkSuccessor (s.onTr fun t =>
          { t.markLast false with parkPending := false, cause := some ⟨.go, src, s.block⟩ }) ‹LeadPos›.pos.index)))
    exact ⟨congrArg (·.st) p.tr, congrArg (·.house) p.tr, congrArg (·.cause) p.tr, p.replies, p.frame⟩
  · exact ⟨rfl, rfl, rfl, rfl, rfl⟩

theorem goWork_rolling {src : PressSource} {s : State} (h : s.tr.st = .rolling) :
    goWork src s = if s.tr.parkPending = true then (goCancel src s, .accepted) else (s, .wrongState) := by
  rw [goWork, h]

theorem goWork_refused {src : PressSource} {s : State} (h : s.tr.st = .idle ∨ s.tr.st = .starting ∨ s.tr.st = .ended ∨
    (s.tr.st = .rolling ∧ s.tr.parkPending = false)) : goWork src s = (s, .wrongState) := by
  rcases h with st | st | st | ⟨st, park⟩
  iterate 3 rw [goWork, st]
  rw [goWork_rolling st, if_neg (by simp [park])]

/-- Settles O29. -/
theorem goRolling : Obligations.GoRolling := by
  intro s h
  refine ⟨fun no => congrArg _ (event_command_same h (goWork_refused no)), ?_⟩
  intro l e st park end_ lead entry room bound cancelled u
  have work : goWork .desk s = (goCancel .desk s, .accepted) := (goWork_rolling st).trans (if_pos park)
  obtain ⟨st', house, cause, replies, frame⟩ := goCancel_tr .desk s
  have caught := goCancel_caughtUp (src := .desk) end_ lead entry room bound
  obtain ⟨m, more, plan, start, -⟩ : Heads cancelled ⟨l.pos.index + 1, e.code, 0, 0, { segmentStart := true }⟩
      (goCancel .desk s).tr.plan := by
    rw [goCancel_eq lead entry]
    exact catchUp_heads _ (resumed_following end_ entry) ⟨_, [], rfl, rfl, rfl⟩
  have row := event_command (k := 0x22) (c := .transport) (w := goWork .desk) h (by rw [work]; exact replies.trans h.2)
  rw [work, summaryOf_transport, State.transportSummary] at row
  dsimp only at row
  rw [st', house, cause, st] at row
  refine ⟨_, m, more, caught, next_eq row, plan, start, ?_, st'.trans st, house, cause, frame⟩
  exact caught.2.imp id fun ⟨len, one, x, tail, last, _⟩ => ⟨len, one, x, tail, last⟩

/-! ## LOCATE and HOME (R36, R37) -/

theorem exec_locates {c : Instr} {k : Byte} {i o : Nat} (h : Locates c k i o) (s : State) :
    exec c s = .next (event (command k .transport (locateWork i o)) s) := by
  obtain ⟨_, rfl, rfl, rfl⟩ | ⟨rfl, rfl, rfl, rfl⟩ := h <;> rfl

theorem inSetList_eq_true {s : State} {i o : Nat} {e : SegmentEntry} (entry : s.setList[i]? = some e) (h : o < e.length) :
    inSetList s i o = true := by
  rw [inSetList, entry]
  exact decide_eq_true h

theorem inSetList_eq_false {s : State} {i o : Nat} (h : ∀ e, s.setList[i]? = some e → e.length ≤ o) :
    inSetList s i o = false := by
  unfold inSetList
  split
  · exact decide_eq_false (Nat.not_lt.2 (h _ ‹_›))
  · rfl

section

variable {s : State} {i o : Nat} {e : SegmentEntry} (entry : s.setList[i]? = some e) (lt : o < e.length)

include entry lt

theorem locateWork_starting (st : s.tr.st = .starting) : locateWork i o s = (locateStarting i o s, .accepted) := by
  rw [locateWork, if_neg (by rw [st]; nofun), if_neg (by rw [inSetList_eq_true entry lt]; decide), st]

theorem locateWork_rolling (st : s.tr.st = .rolling) : locateWork i o s = (locateRolling i o s, .accepted) := by
  rw [locateWork, if_neg (by rw [st]; nofun), if_neg (by rw [inSetList_eq_true entry lt]; decide), st]

theorem locateWork_stopped (st : s.tr.st = .parked ∨ s.tr.st = .ended) :
    locateWork i o s = (locateStopped i o s, .accepted) := by
  rcases st with st | st <;>
    rw [locateWork, if_neg (by rw [st]; nofun), if_neg (by rw [inSetList_eq_true entry lt]; decide), st]

end

/-- A run whose pending end LOCATE has cleared, the target pending as a jump (R37). -/
def State.retargeted (i o : Nat) (s : State) : State :=
  { s with tr := { s.tr with
    plan := unmarkedLast s.tr.plan, lead := some ⟨⟨i, o, 0⟩, { jump := true, segmentStart := o == 0 }⟩
    jumpPending := true, latch := false, parkPending := false, endPending := false } }

theorem jumpTarget_eq (i o : Nat) : jumpTarget i o = ⟨⟨i, o, 0⟩, { jump := true, segmentStart := o == 0 }⟩ := rfl

theorem retargeted_following {s : State} {i o : Nat} {e : SegmentEntry} (entry : s.setList[i]? = some e) :
    Following (s.retargeted i o) :=
  ⟨⟨_, e, rfl, entry, nofun⟩, rfl, rfl⟩

theorem retargeted_length (i o : Nat) (s : State) : (s.retargeted i o).tr.plan.length = s.tr.plan.length :=
  List.length_modify ..

theorem locateRolling_pending {s : State} {i o : Nat} (h : s.tr.pendingEnd = true) :
    locateRolling i o s = raiseTransport .locate (catchUp Config.ringSlots (s.retargeted i o)) := by
  unfold locateRolling
  dsimp only
  rw [if_pos h]
  rfl

/-- The first catch-up append of a LOCATE writes the target. -/
theorem retargeted_catchUp {s : State} {i o : Nat} {e : SegmentEntry} (entry : s.setList[i]? = some e)
    (room : s.tr.plan.length < s.settings.lead) : ∃ n u, catchUp Config.ringSlots (s.retargeted i o) = catchUp n u ∧
      Following u ∧ u.tr.jumpPending = false ∧ u.tr.latch = false ∧
      u.tr.plan = unmarkedLast s.tr.plan ++ [⟨i, e.code, o, 0, { jump := true, segmentStart := o == 0 }⟩] := by
  have first := append_jump (s := s.retargeted i o) rfl entry rfl s.tr.countdown
  have follows : Following (append s.tr.countdown (s.retargeted i o)) := by
    rw [first]
    exact ⟨⟨_, e, rfl, entry, fun _ => ⟨_, List.getLast?_concat .., rfl⟩⟩, rfl, rfl⟩
  refine ⟨127, append s.tr.countdown (s.retargeted i o), if_neg ?_, follows, ?_, ?_, ?_⟩
  · change ¬decide (s.settings.lead ≤ (s.retargeted i o).tr.plan.length) = true
    rw [retargeted_length]
    exact fun full => Nat.not_le.2 room (of_decide_eq_true full)
  all_goals rw [first]; rfl

/-- Settles O30. -/
theorem locateCommand : Obligations.LocateCommand := by
  refine ⟨fun c k i o s c_eq h => ⟨fun idle => ?_, fun idle off => ?_, fun stopped e entry lt => ?_⟩,
    fun c k i o e s c_eq h entry lt => ⟨fun st => ?_, fun st park end_ => ?_, fun st pending room bound => ?_⟩⟩
  all_goals rw [exec_locates c_eq]
  · exact congrArg _ (event_command_same h (if_pos idle))
  · exact congrArg _ (event_command_same h ((if_neg idle).trans (if_pos (by rw [inSetList_eq_false off]; rfl))))
  · have work := locateWork_stopped entry lt stopped
    have placed : locateStopped i o s = raiseTransport .locate
        { s.allTold Tracker.uncued with
          tr := { s.tr with st := .parked, house := some ⟨i, o, 0⟩ }, tc := setJump s.tc } := by
      rw [locateStopped, clearAllCued_eq]
      rfl
    rw [placed] at work
    have row := event_command (k := k) (c := .transport) (w := locateWork i o) h (by
      rw [work]
      simpa [raiseTransport, State.allTold] using h.2)
    rw [work] at row
    refine ⟨_, congrArg _ row, rfl, fun r => State.allTold_tracker Tracker.uncued s r, rfl, ?_, rfl⟩
    change _ = (s.desk.offers (s.rigStates s.tracker (s.allTold Tracker.uncued).tracker ++ _) s.block).answered _
    rw [funext (State.allTold_tracker Tracker.uncued s), Desk.offers_append]
    rfl
  · have work := locateWork_starting entry lt st
    have row := event_command (k := k) (c := .transport) (w := locateWork i o) h (by
      rw [work]
      exact (raise_replies _ _).trans h.2)
    rw [work] at row
    refine congrArg _ (row.trans ?_)
    rw [← st]
    rfl
  · have work := locateWork_rolling entry lt st
    have waits : locateRolling i o s = raiseTransport .locate (s.onTr fun t =>
        { t with lead := some (jumpTarget i o), jumpPending := true, latch := false }) := by
      unfold locateRolling
      dsimp only
      rw [if_neg (by simp [Transport.pendingEnd, park, end_])]
    rw [waits] at work
    have row := event_command (k := k) (c := .transport) (w := locateWork i o) h (by
      rw [work]
      exact (raise_replies _ _).trans h.2)
    rw [work] at row
    refine congrArg _ (row.trans ?_)
    rw [← st]
    rfl
  · have work := locateWork_rolling entry lt st
    rw [locateRolling_pending (by simpa [Transport.pendingEnd] using pending)] at work
    have fuel : (120 : Nat) ≤ Config.ringSlots := by decide
    have caught : CaughtUp (s.retargeted i o) (catchUp Config.ringSlots (s.retargeted i o)) := by
      refine catchUp_caughtUp _ (retargeted_following entry) ?_ ?_ <;> rw [retargeted_length]
      · exact Nat.le_of_lt room
      · change s.settings.lead ≤ _
        omega
    have planned := catchUp_planned Config.ringSlots (s.retargeted i o)
    obtain ⟨n, u, eq, follows, jump, latch, plan⟩ := retargeted_catchUp (o := o) entry room
    have after := catchUp_planned n u
    obtain ⟨m, more, plan', start, jumped⟩ : Heads (unmarkedLast s.tr.plan)
        ⟨i, e.code, o, 0, { jump := true, segmentStart := o == 0 }⟩ (catchUp n u).tr.plan :=
      catchUp_heads n follows ⟨_, [], plan, rfl, rfl⟩
    rw [← eq] at after plan'
    have st' : (catchUp Config.ringSlots (s.retargeted i o)).tr.st = s.tr.st := congrArg (·.st) planned.tr
    have house : (catchUp Config.ringSlots (s.retargeted i o)).tr.house = s.tr.house := congrArg (·.house) planned.tr
    have cause : (catchUp Config.ringSlots (s.retargeted i o)).tr.cause = s.tr.cause := congrArg (·.cause) planned.tr
    generalize catchUp Config.ringSlots (s.retargeted i o) = t at *
    have row := event_command (k := k) (c := .transport) (w := locateWork i o) h (by
      rw [work]
      exact (raise_replies _ _).trans (planned.replies.trans h.2))
    rw [work] at row
    refine ⟨t, m, more, caught, congrArg _ (row.trans ?_), plan', jumped, start, ?_, after.latch latch, after.jump jump,
      st'.trans st, house, cause, planned.frame⟩
    · rw [← house, ← cause, ← st, ← st']
      rfl
    · exact caught.2.imp id fun ⟨len, one, x, tail, last, _⟩ => ⟨len, one, x, tail, last⟩

end Sys2Proof.Machine

end

section
/-! SUPPORT. Presses (R43, R44). -/

namespace Sys2Proof.Machine

/-- The trigger of a press source is enabled (R43). -/
def State.Enables (s : State) : PressSource → Prop
  | .desk => True
  | .cueLine => s.settings.triggers.cueLine = true
  | .rig .A => s.settings.triggers.rigA = true
  | .rig .B => s.settings.triggers.rigB = true
  | .rig .C => s.settings.triggers.rigC = true

theorem enabled_iff (s : State) (src : PressSource) : enabled s.settings.triggers src = true ↔ s.Enables src := by
  match src with
  | .desk => exact iff_of_true rfl trivial
  | .cueLine | .rig .A | .rig .B | .rig .C => exact Iff.rfl

section

variable {src : PressSource} {s : State}

theorem press_disabled (h : ¬s.Enables src) : press src s = s := if_neg (mt (enabled_iff s src).1 h)

theorem press_parked (on : s.Enables src) (st : s.tr.st = .parked) :
    press src s = if s.anyCued = true then (goWork src s).1 else raise (.noSource src) s := by
  rw [press, if_pos ((enabled_iff s src).2 on), st]

theorem press_rolling (on : s.Enables src) (st : s.tr.st = .rolling) : press src s =
    if s.tr.parkPending = true then (goWork src s).1 else if releasable s = true then (releaseWork src s).1 else s := by
  rw [press, if_pos ((enabled_iff s src).2 on), st]

theorem press_idle (st : s.tr.st = .idle ∨ s.tr.st = .starting ∨ s.tr.st = .ended) : press src s = s := by
  unfold press
  split
  · rcases st with st | st | st <;> rw [st]
  · rfl

/-- A press in ROLLING with no park pending: RELEASE, where it would be taken. -/
theorem press_releases (on : s.Enables src) (st : s.tr.st = .rolling) (park : s.tr.parkPending = false) :
    (releasable s = true → s.tr.latch = false → press src s =
        { s with tr := { s.tr with latch := true, cause := some ⟨.release, src, s.block⟩ } }) ∧
      (releasable s = true → s.tr.latch = true → press src s = s) ∧ (releasable s = false → press src s = s) := by
  have row := (press_rolling on st).trans (if_neg (by simp [park]))
  refine ⟨fun may latch => ?_, fun may latch => ?_, fun no => ?_⟩
  · rw [row, if_pos may, releaseWork_taken may latch]
    rfl
  · rw [row, if_pos may, releaseWork_latched may latch]
  · rw [row, if_neg (by simp [no])]

end

/-- Settles O39. -/
theorem cuePress : Obligations.CuePress := by
  intro src s on
  change (¬s.Enables src → _) ∧ _ ∧ (s.Enables src → _) ∧ (s.Enables src → _) ∧ (s.Enables src → _) ∧
    (s.Enables src → _) ∧ (s.Enables src → _) ∧ (s.Enables src → _)
  have cancels (on : s.Enables src) (st : s.tr.st = .rolling) (park : s.tr.parkPending = true) :
      press src s = goCancel src s := by
    rw [press_rolling on st, if_pos park, goWork_rolling st, if_pos park]
  have starts (on : s.Enables src) (st : s.tr.st = .parked) (cued : ∃ r, (s.tracker r).cued = true) :
      press src s = goParked src s := by
    rw [press_parked on st, if_pos (State.anyCued_eq_true.2 cued), goWork_parked st,
      if_pos (State.anyCued_eq_true.2 cued)]
  obtain ⟨groups, tr, desk, trackers, arb, rest⟩ := goParked_spec src s
  refine ⟨press_disabled, press_idle, fun on st off => ?_, fun on st cued => ?_, fun on st cued => ?_,
    fun on st park end_ => ?_, fun on taken => ⟨?_, fun h => ?_⟩, fun on st park => ?_⟩
  · rw [press_parked on st, if_neg fun k => ?_]
    obtain ⟨r, hr⟩ := State.anyCued_eq_true.1 k
    simp [off r] at hr
  · rw [starts on st cued]
    exact tr
  · obtain ⟨moved, none_, some_, each⟩ := goGroups_spec s
    rw [starts on st cued]
    refine ⟨moved, none_, some_, ?_, fun i g hg => ?_, desk, trackers, arb, rest⟩
    · rw [groups, List.length_map]
    · rw [groups]
      exact each i g hg
  · rw [cancels on st park]
    obtain ⟨st', -, cause, -, -⟩ := goCancel_tr src s
    exact ⟨cause, st'.trans st, fun l e lead entry room bound => goCancel_caughtUp end_ lead entry room bound⟩
  · obtain ⟨st, cued⟩ | ⟨st, park⟩ := taken
    · rw [press_parked on st, if_pos (State.anyCued_eq_true.2 cued)]
    · rw [press_rolling on st, if_pos park]
  · have accepted : goWork .desk s = ((goWork .desk s).1, .accepted) ∧ (goWork .desk s).1.desk.replies = [] := by
      obtain ⟨st, cued⟩ | ⟨st, park⟩ := taken
      · rw [goWork_parked st, if_pos (State.anyCued_eq_true.2 cued)]
        obtain ⟨-, -, desk, -⟩ := goParked_spec .desk s
        exact ⟨rfl, (congrArg Desk.replies desk).trans ((Desk.offers_replies ..).trans h.2)⟩
      · rw [goWork_rolling st, if_pos park]
        obtain ⟨-, -, -, replies, -⟩ := goCancel_tr .desk s
        exact ⟨rfl, replies.trans h.2⟩
    have row := event_command (k := 0x22) (c := .transport) (w := goWork .desk) h accepted.2
    rw [congrArg Prod.snd accepted.1] at row
    exact next_eq row
  · obtain ⟨takes, latched, no⟩ := press_releases on st park
    have not_releasable (h : ¬∃ l e v, s.tr.lead = some l ∧ s.setList[l.pos.index]? = some e ∧ e.vamp = some v ∧
        l.pos.offset < v.vampOut) : press src s = s :=
      no (Bool.eq_false_iff.2 fun k => h (releasable_eq_true.1 k).2.2.2)
    refine ⟨fun end_ => no (Bool.eq_false_iff.2 fun k => ?_), fun lead => not_releasable ?_, fun l e lead entry =>
      ⟨fun vamp => not_releasable ?_, fun v vamp end_ => ?_⟩⟩
    · obtain ⟨-, -, clear, -⟩ := releasable_eq_true.1 k
      simp [end_] at clear
    · rintro ⟨l, _, _, lead', -⟩
      cases lead.symm.trans lead'
    · rintro ⟨l', e', v, lead', entry', vamp', -⟩
      cases lead.symm.trans lead'
      cases entry.symm.trans entry'
      cases vamp.symm.trans vamp'
    · have ahead : releasable s = true ↔ l.pos.offset < v.vampOut := by
        rw [releasable_eq_true, State.not_stopped]
        simp [st, park, end_, lead, entry, vamp]
      exact ⟨fun lt latch => takes (ahead.2 lt) latch, fun lt latch => latched (ahead.2 lt) latch,
        fun le => no (Bool.eq_false_iff.2 fun k => Nat.not_lt.2 le (ahead.1 k))⟩

end Sys2Proof.Machine

end

section
/-! SUPPORT. The stop of a run (R31, R38, R145): every group landed, every take closed; HALT. -/

namespace Sys2Proof.Machine

/-! ## Members landing on their targets (R141) -/

/-- One group at the close of a take. -/
def Take.land (g : Group) (u : Take) : Group :=
  match u.completing.find? fun m => m.group == g.num with
  | some m => g.complete u m
  | none => g

/-- One group at the close of all takes. -/
def landAll (us : List Take) (g : Group) : Group := us.foldl Take.land g

theorem Take.land_num (g : Group) (u : Take) : (u.land g).num = g.num := by
  unfold Take.land
  split <;> rfl

theorem completeGroups_all (us : List Take) (gs : List Group) :
    us.foldl (fun gs u => completeGroups u u.completing gs) gs = gs.map (landAll us) := by
  induction us generalizing gs with
  | nil => exact (List.map_id' gs).symm
  | cons u us ih => exact (ih _).trans List.map_map

theorem Take.completing_subset (u : Take) : u.completing ⊆ u.members := by
  unfold Take.completing
  split
  · exact List.filter_subset_self _
  · exact List.Subset.refl _

theorem Take.land_other {u : Take} {g : Group} (h : ∀ m ∈ u.members, m.group ≠ g.num) : u.land g = g := by
  have none_ : u.completing.find? (fun m => m.group == g.num) = none :=
    List.find?_eq_none.2 fun m hm => by simpa using h m (u.completing_subset hm)
  rw [Take.land, none_]

theorem landAll_other {us : List Take} {g : Group} (h : ∀ u ∈ us, ∀ m ∈ u.members, m.group ≠ g.num) :
    landAll us g = g := by
  induction us with
  | nil => rfl
  | cons u us ih =>
    rw [landAll, List.foldl_cons, Take.land_other (h u (.head _))]
    exact ih fun v hv => h v (.tail _ hv)

section

variable {us : List Take} {u : Take} {m : Member} {g : Group}

/-- The members of all takes are of different groups (R129). -/
def MembersApart (us : List Take) : Prop := (us.flatMap fun u => u.members.map (·.group)).Nodup

theorem landAll_member (apart : MembersApart us) (hu : u ∈ us) (hm : m ∈ u.members) (hg : m.group = g.num) :
    landAll us g = u.land g := by
  obtain ⟨before, after, rfl⟩ := List.append_of_mem hu
  have named : g.num ∈ u.members.map (·.group) := hg ▸ List.mem_map_of_mem hm
  unfold MembersApart at apart
  rw [List.flatMap_append, List.flatMap_cons, List.nodup_append] at apart
  obtain ⟨-, rest, front⟩ := apart
  obtain ⟨-, -, back⟩ := List.nodup_append.1 rest
  have early : landAll before g = g := landAll_other fun v hv k hk e =>
    front _ (List.mem_flatMap.2 ⟨v, hv, List.mem_map_of_mem hk⟩) _ (List.mem_append_left _ named) e
  rw [landAll, List.foldl_append, List.foldl_cons]
  change landAll after (u.land (landAll before g)) = _
  rw [early]
  refine landAll_other fun v hv k hk e => ?_
  rw [u.land_num] at e
  exact back _ named _ (List.mem_flatMap.2 ⟨v, hv, List.mem_map_of_mem hk⟩) e.symm

theorem member_unique (apart : (u.members.map (·.group)).Nodup) (hm : m ∈ u.members) {k : Member} (hk : k ∈ u.members)
    (e : k.group = m.group) : k = m := List.inj_on_of_nodup_map apart hk hm e

theorem Take.land_left (apart : (u.members.map (·.group)).Nodup) (hm : m ∈ u.members) (hg : m.group = g.num)
    (st : u.st = .waiting) (stage : m.stage ≠ .incoming) : u.land g = g := by
  have none_ : u.completing.find? (fun m => m.group == g.num) = none := by
    refine List.find?_eq_none.2 fun k hk e => ?_
    have same := member_unique apart hm (u.completing_subset hk) ((eq_of_beq e).trans hg.symm)
    rw [same, Take.completing, if_pos st, List.mem_filter, beq_iff_eq] at hk
    exact stage hk.2
  rw [Take.land, none_]

theorem Take.land_landed (apart : (u.members.map (·.group)).Nodup) (hm : m ∈ u.members) (hg : m.group = g.num)
    (past : u.st ≠ .waiting ∨ m.stage = .incoming) : u.land g = g.complete u m := by
  have completes : m ∈ u.completing := by
    unfold Take.completing
    split
    · exact List.mem_filter.2 ⟨hm, beq_iff_eq.2 (past.resolve_left (absurd ‹_›))⟩
    · exact hm
  have found : u.completing.find? (fun m => m.group == g.num) = some m := by
    cases h : u.completing.find? (fun m => m.group == g.num) with
    | none => exact absurd (beq_iff_eq.2 hg) (List.find?_eq_none.1 h m completes)
    | some k =>
      have named : k.group = g.num := by simpa using List.find?_some h
      rw [member_unique apart hm (u.completing_subset (List.mem_of_find?_eq_some h)) (named.trans hg.symm)]
  rw [Take.land, found]

theorem MembersApart.take (apart : MembersApart us) (hu : u ∈ us) : (u.members.map (·.group)).Nodup :=
  (List.nodup_flatMap.1 apart).1 u hu

end

/-- The group table once every take has closed (R145). -/
def State.landed (s : State) : List Group := s.groups.map (landAll s.sw.takes)

/-- What HALT and the end of a run leave of each group. -/
theorem landed_spec {s : State} {i : Nat} {g : Group} (hg : s.groups[i]? = some g) :
    ((∀ u ∈ s.sw.takes, ∀ m ∈ u.members, m.group ≠ g.num) → s.landed[i]? = some g) ∧
      ((s.sw.takes.flatMap fun u => u.members.map (·.group)).Nodup →
        ∀ u ∈ s.sw.takes, ∀ m ∈ u.members, m.group = g.num →
          (u.st = .waiting → m.stage ≠ .incoming → s.landed[i]? = some g) ∧
          (u.st ≠ .waiting ∨ m.stage = .incoming → s.landed[i]? = some { g with
            source := u.target, uncovered := false
            last := some ⟨u.num, u.cause, m.src, u.target,
              if u.st = .waiting then none else some (frameBlock u.startFrame)⟩ })) := by
  have at_ : s.landed[i]? = some (landAll s.sw.takes g) := by
    rw [State.landed, List.getElem?_map, hg]
    rfl
  refine ⟨fun none_ => ?_, fun apart u hu m hm named => ?_⟩
  · rw [at_, landAll_other none_]
  · rw [at_, landAll_member apart hu hm named]
    exact ⟨fun st stage => congrArg _ (Take.land_left (MembersApart.take apart hu) hm named st stage),
      fun past => congrArg _ (Take.land_landed (MembersApart.take apart hu) hm named past)⟩

/-! ## The closes (R120, R145) -/

theorem closeNamed_eq {s : State} (h : s.tr.st ≠ .rolling) (c : Close) (t : Take) : ∃ requests,
    closeNamed c s t = { s with
      sw := { s.sw with takes := s.sw.takes.filter fun x => !(x.num == t.num) }
      arb := ⟨requests, s.arb.inService.filter fun x => !(x.2 == t.num)⟩
      desk := s.desk.offers [t.closedAt c s.groups] s.block } := by
  unfold closeNamed closeReport
  dsimp only
  rw [withdrawStale_of_not_rolling (by exact h)]
  exact ⟨_, rfl⟩

/-- Every take closed, outside ROLLING: the requests that are left are discarded anyway. -/
theorem closeNameds_eq (c : Close) : ∀ (ts : List Take) (s : State), s.tr.st ≠ .rolling → ∃ requests,
    ts.foldl (closeNamed c) s = { s with
      sw := { s.sw with takes := s.sw.takes.filter fun x => !(ts.any fun t => x.num == t.num) }
      arb := ⟨requests, s.arb.inService.filter fun x => !(ts.any fun t => x.2 == t.num)⟩
      desk := s.desk.offers (ts.map (Take.closedAt c s.groups)) s.block }
  | [], s, _ => ⟨s.arb.requests, by simp⟩
  | t :: ts, s, h => by
    obtain ⟨first, e⟩ := closeNamed_eq h c t
    obtain ⟨requests, rest⟩ := closeNameds_eq c ts (closeNamed c s t) (by rw [e]; exact h)
    refine ⟨requests, rest.trans ?_⟩
    rw [e]
    simp only [List.filter_filter, List.any_cons, Bool.not_or, Bool.and_comm, List.map_cons]
    rfl

/-- The state after the stop of a run: CUED cleared, the groups landed with their SLIPs, the takes closed (R31, R38). -/
def State.stoppedRun (st : TState) (house : Option Pos) (c : Close) (s : State) : State :=
  let u := (s.allTold Tracker.uncued).regrouped s.landed
  { u with
    tr := s.tr.stop st house, sw := { s.sw with takes := [] }, arb := ⟨[], []⟩, tc := startHeld s.tc, grid := none
    desk := u.desk.offers (s.sw.takes.map (Take.closedAt c s.landed)) s.block }

theorem stopRun_eq {st : TState} (stopped : st ≠ .rolling) {s : State}
    (owned : ∀ x ∈ s.arb.inService, ∃ u ∈ s.sw.takes, u.num = x.2) (house : Option Pos) (c : Close) :
    stopRun st house c s = s.stoppedRun st house c := by
  unfold stopRun closeAll
  dsimp only
  rw [writeGroups_eq, clearAllCued_eq]
  change { (discardRequests (s.sw.takes.foldl (closeNamed c) (State.regrouped
    (s.sw.takes.foldl (fun gs t => completeGroups t t.completing gs) s.groups)
    ((s.onTr (·.stop st house)).allTold Tracker.uncued)))).onTc startHeld with grid := none } = _
  rw [completeGroups_all]
  obtain ⟨requests, e⟩ := closeNameds_eq c s.sw.takes
    (((s.onTr (·.stop st house)).allTold Tracker.uncued).regrouped s.landed) stopped
  have takes : s.sw.takes.filter (fun x => !(s.sw.takes.any fun t => x.num == t.num)) = [] :=
    List.filter_eq_nil_iff.2 fun x hx => by simpa using ⟨x, hx, rfl⟩
  have levels : s.arb.inService.filter (fun x => !(s.sw.takes.any fun t => x.2 == t.num)) = [] :=
    List.filter_eq_nil_iff.2 fun x hx => by
      obtain ⟨u, hu, num⟩ := owned x hx
      simpa using ⟨u, hu, num.symm⟩
  refine (congrArg (fun u : State => { (discardRequests u).onTc startHeld with grid := none }) e).trans ?_
  change ({ State.stoppedRun st house c s with
      sw := { s.sw with takes := s.sw.takes.filter (fun x => !(s.sw.takes.any fun t => x.num == t.num)) }
      arb := ⟨[], s.arb.inService.filter (fun x => !(s.sw.takes.any fun t => x.2 == t.num))⟩ } : State) = _
  rw [takes, levels]
  rfl

/-- Of a tracker whose CUED has been cleared the loss reports leave what they leave of it otherwise, without CUED. -/
theorem trackerAfter_uncued (s : State) (gs : List Group) (r : Rig) :
    (s.allTold Tracker.uncued).trackerAfter gs r = { s.trackerAfter gs r with cued := false } := by
  have told : (s.allTold Tracker.uncued).tracker r = (s.tracker r).uncued := State.allTold_tracker _ s r
  unfold State.trackerAfter
  rw [told]
  by_cases h : (s.tracker r).causes.slip = true ∧ (∃ g ∈ s.groups, g.source = .rig r) ∧ ∀ g ∈ gs, g.source ≠ .rig r
  · rw [if_pos h]
    refine (if_pos h).trans ?_
    dsimp only
    split <;> rfl
  · rw [if_neg h]
    exact if_neg h

theorem stoppedRun_spec (st : TState) (house : Option Pos) (c : Close) (s : State) :
    let t := s.stoppedRun st house c
    let uncued (r : Rig) : Tracker := { s.tracker r with cued := false }
    (∀ r, t.tracker r = { s.trackerAfter t.groups r with cued := false }) ∧
      t.desk = s.desk.offers (s.rigStates s.tracker uncued ++ s.rigStates uncued t.tracker ++
        s.sw.takes.map (Take.closedAt c t.groups)) s.block := by
  intro t uncued
  have told : (s.allTold Tracker.uncued).tracker = uncued := funext (State.allTold_tracker _ s)
  have trackers : t.tracker = (s.allTold Tracker.uncued).trackerAfter s.landed := State.regrouped_tracker_eq _ _
  refine ⟨fun r => ?_, ?_⟩
  · rw [trackers]
    exact trackerAfter_uncued s s.landed r
  · change ((s.allTold Tracker.uncued).desk.offers ((s.allTold Tracker.uncued).rigStates (s.allTold Tracker.uncued).tracker
      ((s.allTold Tracker.uncued).trackerAfter s.landed)) s.block).offers _ s.block = _
    rw [← trackers, told, ← Desk.offers_append]
    change (s.desk.offers (s.rigStates s.tracker uncued) s.block).offers (s.rigStates uncued t.tracker ++ _) s.block = _
    rw [← Desk.offers_append, List.append_assoc]
    rfl

/-! ## HALT (R38) -/

theorem haltWork_running {s : State} (h : ¬s.Stopped) : haltWork s =
    (raiseTransport .halt (stopRun .parked (s.tr.house.map fun p => { p with pass := 0 }) .halt s), .accepted) := by
  unfold haltWork
  rcases State.not_stopped.1 h with st | st <;> rw [st]

theorem haltWork_stopped {s : State} (h : s.Stopped) : haltWork s = (s, .accepted) := by
  obtain ⟨starting, rolling⟩ := h
  unfold haltWork
  split
  · exact absurd ‹_› starting
  · exact absurd ‹_› rolling
  · rfl

/-- Settles O31. -/
theorem haltCommand : Obligations.HaltCommand := by
  intro s h
  refine ⟨fun stopped => congrArg _ (event_command_same h (haltWork_stopped stopped)), fun running p house owned => ?_⟩
  have work := haltWork_running running
  rw [stopRun_eq (by decide) owned, house] at work
  obtain ⟨trackers, desk⟩ := stoppedRun_spec .parked (some { p with pass := 0 }) .halt s
  have row := event_command (k := 0x23) (c := .transport) (w := haltWork) h (by
    rw [work]
    exact (raise_replies _ _).trans ((congrArg Desk.replies desk).trans ((Desk.offers_replies ..).trans h.2)))
  rw [work] at row
  refine ⟨_, next_eq row, rfl, rfl, rfl, rfl, rfl, trackers, List.length_map .., fun i g hg => landed_spec hg, ?_, rfl⟩
  intro uncued
  rw [Desk.offers_append _ [_]]
  refine Eq.trans ?_ (congrArg (fun d : Desk => (d.offers _ s.block).answered _) desk)
  rfl

end Sys2Proof.Machine

end

section
/-! SUPPORT. The house block boundary: what it leaves in every state, what it is when nothing is due, and what it sends (R21,
R61, R62). -/

namespace Sys2Proof.Machine

/-! ## What the timed work leaves -/

/-- The work of the clock changes transport, trackers, arbiter, take table, groups, timecode, grid and desk port alone. -/
def Runs (s t : State) : Prop :=
  t = { s with
    tr := t.tr, trackers := t.trackers, arb := t.arb, sw := t.sw, groups := t.groups, tc := t.tc, grid := t.grid
    desk := t.desk }

namespace Runs

variable {s t u : State}

protected theorem refl (s : State) : Runs s s := rfl

protected theorem trans (h : Runs s t) (k : Runs t u) : Runs s u := by
  unfold Runs at *
  rw [k, h]

theorem ofArbiter (h : ArbiterWork s t) : Runs s t := by
  unfold Runs
  rw [h.frame]

theorem foldl {α : Type} {f : State → α → State} (h : ∀ s x, Runs s (f s x)) : ∀ (l : List α) (s : State),
    Runs s (l.foldl f s)
  | [], s => .refl s
  | x :: l, s => (h s x).trans (foldl h l (f s x))

theorem ite {c : Prop} [Decidable c] (h : Runs s t) (k : Runs s u) : Runs s (if c then t else u) := by
  split
  · exact h
  · exact k

theorem onTr (f : Transport → Transport) (s : State) : Runs s (s.onTr f) := rfl
theorem onTc (f : Timecode → Timecode) (s : State) : Runs s (s.onTc f) := rfl
theorem raise (b : NoticeBody) (s : State) : Runs s (raise b s) := rfl
theorem setTracker (r : Rig) (x : Tracker) (s : State) : Runs s (s.setTracker r x) := rfl

theorem press (src : PressSource) (s : State) : Runs s (press src s) := by
  have go : Runs s (goWork src s).1 := by
    unfold goWork
    split
    · split
      · unfold Runs
        rw [(goParked_spec src s).2.2.2.2.2]
      · rfl
    · split
      · unfold Runs
        rw [(goCancel_tr src s).2.2.2.2]
      · rfl
    · rfl
  have release : Runs s (releaseWork src s).1 := by
    unfold releaseWork
    split
    · split <;> rfl
    · rfl
  unfold Machine.press
  refine .ite ?_ (.refl s)
  split
  · exact .ite go (.raise _ s)
  · exact .ite go (.ite release (.refl s))
  · exact .refl s

theorem startCountdown (s : State) : Runs s (startCountdown s) :=
  .ite ((Runs.onTr _ s).trans ((Runs.raise _ _).trans ((foldl (fun s r => .ofArbiter (.renew s r)) _ _).trans
    (.ofArbiter (.rollArrival _))))) (.refl s)

theorem cueDebounce (s : State) : Runs s (cueDebounce s) :=
  .ite ((Runs.onTr _ s).trans (.ite (.press _ _) (.refl _))) (.refl s)

theorem forceTracker (s : State) (r : Rig) : Runs s (forceTracker s r) := by
  have step (x : TrackerStep) (b : Bool) (u : State) : Runs u (applyStep r x b u) :=
    (Runs.setTracker r x.t u).trans (.ofArbiter (.applyStep r x b u))
  have verify : Runs s (verifyExpiry r s) := .ite (step _ _ s) (.refl s)
  exact verify.trans (.ite (step _ _ _) (.refl _))

theorem forceTake (s : State) (n : Nat) : Runs s (forceTake s n) := by
  unfold Machine.forceTake
  split
  · exact .ofArbiter (.takeStart n s)
  · exact .ofArbiter (.takeWaitExpiry n s)
  · exact .ofArbiter (.rampEnd n s)
  · exact .ofArbiter (.settleEnd n s)
  · exact .refl s

theorem formHeld (s : State) : Runs s (formHeld s) := by
  unfold Machine.formHeld
  refine .ite ?_ (.refl s)
  split
  · dsimp only
    split <;> rfl
  · rfl

theorem forceDue (s : State) : Runs s (forceDue s) :=
  (startCountdown s).trans ((cueDebounce _).trans ((foldl forceTracker _ _).trans ((foldl forceTake _ _).trans
    (formHeld _))))

theorem boundaryAppend (c : Nat) (s : State) : Runs s (boundaryAppend c s) := by
  refine .ite (.refl s) ?_
  unfold Runs
  rw [(append_planned c s).frame]

theorem dequeue (e : PlanEntry) (rest : List PlanEntry) (s : State) : Runs s (dequeue e rest s) := by
  unfold Machine.dequeue
  dsimp only
  refine Runs.trans ?_ (.onTc _ _)
  rw [jumpAll_eq]
  exact ((Runs.onTr _ s).trans (.ite (.raise _ _) (.refl _))).trans (.ite rfl (.refl _))

theorem stopRun (st : TState) (house : Option Pos) (c : Close) (s : State) : Runs s (stopRun st house c s) := by
  have h : Runs s (closeAll c (clearAllCued (s.onTr (·.stop st house)))) := by
    rw [clearAllCued_eq]
    exact Runs.trans (t := (s.onTr (·.stop st house)).allTold Tracker.uncued) rfl (.ofArbiter (.closeAll c _))
  exact h.trans rfl

theorem runEnd (s : State) : Runs s (runEnd s) :=
  .ite ((stopRun ..).trans ((Runs.onTc _ _).trans (.raise _ _))) ((stopRun ..).trans ((Runs.onTc _ _).trans (.raise _ _)))

theorem transportBoundary (s : State) : Runs s (transportBoundary s) := by
  unfold Machine.transportBoundary
  split
  · exact (boundaryAppend _ s).trans (.onTr _ _)
  · unfold rollingBoundary
    split
    · exact runEnd s
    · exact ((dequeue _ _ s).trans (boundaryAppend _ _)).trans (.ite (.refl _) rfl)
  · exact .refl s

theorem heldBoundary (s : State) : Runs s (heldBoundary s) := by
  unfold Machine.heldBoundary
  split
  · rfl
  · rfl
  · split <;> rfl

end Runs

/-! ## The boundary after the transport's work -/

/-- The boundary's work after the transport's: cue input, beat timers, takes and grid (R41, R100, R133, R166). -/
def afterTransport (cue : Level) (s : State) : State := deriveGrid (takesBoundary (beatBoundary (cueSample cue s)))

theorem boundary_eq (cue : Level) (s : State) : boundary cue s =
    sendReferences (afterTransport cue (transportBoundary (heldBoundary (nextBlock (forceDue s))))) := rfl

theorem runs_afterTransport (cue : Level) (s : State) : Runs s (afterTransport cue s) := rfl

theorem runs_boundary (cue : Level) (s : State) : Runs { s with block := s.block + 1, phase := 0 }
    (afterTransport cue (transportBoundary (heldBoundary (nextBlock (forceDue s))))) := by
  have next : Runs { s with block := s.block + 1, phase := 0 } (nextBlock (forceDue s)) := by
    have forced := Runs.forceDue s
    unfold Runs nextBlock at *
    rw [forced]
  exact next.trans ((Runs.heldBoundary _).trans ((Runs.transportBoundary _).trans (runs_afterTransport cue _)))

/-! ## Nothing due -/

section

variable {s : State} (h : s.NothingDue)

include h

theorem startCountdown_notDue : startCountdown s = s := if_neg fun k => h.start (by simpa [startDue] using k)

theorem cueDebounce_notDue : cueDebounce s = s := if_neg (by simpa [cueDue] using h.cue)

theorem forceTake_notDue (n : Nat) : forceTake s n = s := by
  have none_ : (findTake s.sw.takes n).bind (·.due) = none := by
    cases found : findTake s.sw.takes n with
    | none => rfl
    | some t => exact h.takes t (List.mem_of_find?_eq_some found)
  rw [forceTake, none_]

theorem forceDue_nothingDue : forceDue s = s := by
  have trackers : Rig.all.foldl forceTracker s = s := List.foldl_fixed' (fun r => by
    rw [forceTracker, verifyExpiry_notDue (h.verify r), beatExpiry_notDue (h.beat r)]) _
  unfold forceDue
  rw [startCountdown_notDue h, cueDebounce_notDue h]
  dsimp only
  rw [trackers, List.foldl_fixed' (forceTake_notDue h)]
  exact if_neg (by simp [h.held])

end

/-- The boundary with nothing left due. -/
theorem exec_boundary {s : State} (on : s.power = true) (h : s.NothingDue) (cue : Level) :
    exec (.houseBlockBoundary cue) s = .next
      (kick (sendReferences (afterTransport cue (transportBoundary (heldBoundary (nextBlock s)))))) := by
  refine next_event on ?_
  rw [boundary_eq, forceDue_nothingDue h]

/-- The stopped transport's boundary does nothing (section 2.3). -/
theorem transportBoundary_stopped {s : State} (h : s.Stopped) : transportBoundary s = s := by
  unfold transportBoundary
  split
  · exact absurd ‹_› h.1
  · exact absurd ‹_› h.2
  · rfl

/-- The held-message timer alone changes at its boundary (R164). -/
theorem heldBoundary_eq (s : State) : heldBoundary s = { s with tc := (heldBoundary s).tc } := by
  unfold heldBoundary
  split
  · rfl
  · rfl
  · split <;> rfl

/-- While no run ends, the transport's boundary leaves groups, arbiter and takes. -/
theorem transportBoundary_eq {s : State} (h : s.tr.st = .rolling → s.tr.plan ≠ []) : transportBoundary s =
    { s with
      tr := (transportBoundary s).tr, trackers := (transportBoundary s).trackers, tc := (transportBoundary s).tc
      desk := (transportBoundary s).desk } := by
  have appended (c : Nat) (u : State) :
      boundaryAppend c u = { u with tr := (boundaryAppend c u).tr, desk := (boundaryAppend c u).desk } := by
    unfold boundaryAppend
    split
    · rfl
    · exact (append_planned c u).frame
  have dequeued (e : PlanEntry) (rest : List PlanEntry) : dequeue e rest s =
      { s with
        tr := (dequeue e rest s).tr, trackers := (dequeue e rest s).trackers, tc := (dequeue e rest s).tc
        desk := (dequeue e rest s).desk } := by
    unfold dequeue
    dsimp only
    rw [jumpAll_eq]
    split <;> split <;> rfl
  unfold transportBoundary
  split
  · unfold startingBoundary
    rw [appended]
    rfl
  · rename_i rolling
    unfold rollingBoundary
    split
    · exact absurd ‹_› (h rolling)
    · unfold verifyBoundary
      rw [appended, dequeued]
      split <;> rfl
  · rfl

/-! ## Roles (R62) -/

theorem carries_eq_true {gs : List Group} {r : Rig} : carries gs r = true ↔ ∃ g ∈ gs, g.source = .rig r := by
  simp [carries]

theorem carries_eq_false {gs : List Group} {r : Rig} : carries gs r = false ↔ ∀ g ∈ gs, g.source ≠ .rig r := by
  simp [carries]

theorem coverRig_eq_some {s : State} {r : Rig} : s.coverRig = some r ↔
    ((s.tracker r).st = .ready ∧ s.onAir r = false) ∧ ∃ before after, s.prefs = before ++ r :: after ∧
      ∀ x ∈ before, (s.tracker x).st ≠ .ready ∨ ∃ g ∈ s.groups, g.source = .rig x := by
  have passed (x : Rig) : (!((s.tracker x).st == .ready && !s.onAir x)) = true ↔
      ((s.tracker x).st ≠ .ready ∨ ∃ g ∈ s.groups, g.source = .rig x) := by
    rw [← carries_eq_true]
    simp [State.onAir]
  unfold State.coverRig firstRig
  rw [List.find?_eq_some_iff_append]
  simp only [passed, Bool.and_eq_true, beq_iff_eq, Bool.not_eq_true']

section

variable {s : State} {r : Rig}

theorem role_excluded (h : (s.tracker r).st = .excluded) : s.role r = .excluded :=
  if_pos (by simp [State.isExcluded, h])

theorem role_air (h : (s.tracker r).st ≠ .excluded) (air : ∃ g ∈ s.groups, g.source = .rig r) : s.role r = .air :=
  (if_neg (by simp [State.isExcluded, h])).trans (if_pos (carries_eq_true.2 air))

theorem role_off (h : (s.tracker r).st ≠ .excluded) (off : ∀ g ∈ s.groups, g.source ≠ .rig r) :
    s.role r = if s.coverRig = some r then .cover else .standby :=
  (if_neg (by simp [State.isExcluded, h])).trans (if_neg (by simp [State.onAir, carries_eq_false.2 off]))

theorem coverRig_of_role (h : s.role r = .cover) : s.coverRig = some r := by
  unfold State.role at h
  split at h
  · cases h
  · split at h
    · cases h
    · split at h
      · assumption
      · cases h

end

theorem afterTransport_groups (cue : Level) (s : State) : (afterTransport cue s).groups = s.groups := rfl

theorem afterTransport_arb (cue : Level) (s : State) : (afterTransport cue s).arb = s.arb := rfl

theorem afterTransport_sw (cue : Level) (s : State) : (afterTransport cue s).sw =
    { s.sw with takes := s.sw.takes.map (takeBoundary (beatBoundary (cueSample cue s))) } := rfl

theorem afterTransport_sw_nil (cue : Level) {s : State} (h : s.sw.takes = []) : (afterTransport cue s).sw = s.sw := by
  rw [afterTransport_sw, h, List.map_nil, ← h]

section

variable {s : State} (due : s.NothingDue)

include due

theorem boundary_still (more : s.tr.st = .rolling → s.tr.plan ≠ []) (cue : Level) :
    (afterTransport cue (transportBoundary (heldBoundary (nextBlock (forceDue s))))).groups = s.groups ∧
      (afterTransport cue (transportBoundary (heldBoundary (nextBlock (forceDue s))))).arb = s.arb := by
  rw [forceDue_nothingDue due, afterTransport_groups, afterTransport_arb,
    transportBoundary_eq (by rw [heldBoundary_eq]; exact more), heldBoundary_eq]
  exact ⟨rfl, rfl⟩

theorem boundary_stopped (st : s.Stopped) (cue : Level) :
    afterTransport cue (transportBoundary (heldBoundary (nextBlock (forceDue s)))) =
      afterTransport cue { nextBlock s with tc := (heldBoundary (nextBlock s)).tc } := by
  rw [forceDue_nothingDue due, transportBoundary_stopped (by rw [heldBoundary_eq]; exact st), ← heldBoundary_eq]

end

/-- Settles O34: the boundary's frame, then the stopped transport, then R62's four roles in order. -/
theorem boundaryStep : Obligations.BoundaryStep := by
  refine ⟨fun cue s on => ?_, fun s => ⟨fun r => ⟨role_excluded, role_air, fun other off => ?_⟩, fun r x hr hx => ?_⟩⟩
  · have row : exec (.houseBlockBoundary cue) s = .next _ := next_event on (boundary_eq cue s)
    have runs := runs_boundary cue s
    have still (due : s.NothingDue) (more : s.tr.st = .rolling → s.tr.plan ≠ []) := boundary_still due more cue
    have stopped (due : s.NothingDue) (st : s.Stopped) := boundary_stopped due st cue
    generalize afterTransport cue (transportBoundary (heldBoundary (nextBlock (forceDue s)))) = u at *
    refine ⟨_, row, congrArg (·.block) runs, congrArg (·.phase) runs, congrArg (·.settings) runs,
      congrArg (·.setList) runs, congrArg (·.prefs) runs, congrArg (·.program) runs, fun r => ?_, fun due more => ?_,
      fun due st => ?_⟩
    · have port : u.port r = s.port r := congrArg (·.port r) runs
      refine ⟨referenceOf u r, ?_, congrArg (·.block) runs, rfl, congrArg (·.settings.beat) runs,
        congrArg (·.settings.lead) runs, ?_, rfl⟩
      · rw [← port]
        cases r <;> rfl
      · unfold referenceOf newestPosition
        rfl
    · obtain ⟨groups, arb⟩ := still due more
      unfold Runs at runs
      rw [groups, arb] at runs
      exact congrArg (fun v : State => { v with ports := (sendReferences u).ports, desk := u.desk.kick }) runs
    · have st' : s.Stopped := by
        rcases st with e | e | e <;> exact ⟨by rw [e]; nofun, by rw [e]; nofun⟩
      rw [stopped due st']
      exact ⟨rfl, rfl, if_neg fun k => st'.2 k.1, fun none_ => afterTransport_sw_nil cue none_⟩
  · have role := role_off other off
    have cover : s.role r = .cover ↔ s.coverRig = some r := by
      rw [role]
      split <;> simp [*]
    have offAir : s.onAir r = false := carries_eq_false.2 off
    refine ⟨?_, ?_⟩
    · rw [role]
      split
      · exact .inl rfl
      · exact .inr rfl
    · rw [cover, coverRig_eq_some]
      exact ⟨fun ⟨⟨ready, _⟩, before, after, prefs, others⟩ => ⟨before, after, prefs, ready, others⟩,
        fun ⟨before, after, prefs, ready, others⟩ => ⟨⟨ready, offAir⟩, before, after, prefs, others⟩⟩
  · exact Option.some.inj ((coverRig_of_role hr).symm.trans (coverRig_of_role hx))

end Sys2Proof.Machine

end

section
/-! SUPPORT. The boundary that ends a run (R31). -/

namespace Sys2Proof.Machine

theorem heldBoundary_tc (s : State) : (heldBoundary s).tc =
    { s.tc with held := (heldBoundary s).tc.held, heldDue := (heldBoundary s).tc.heldDue } := by
  unfold heldBoundary
  split
  · rfl
  · rfl
  · split <;> rfl

/-- A beat-interval timer at a boundary, running or not, when no expiry is due (R100). -/
theorem Tracker.beatBoundary_eq {t : Tracker} (h : t.beatDue = false) (interval : Nat) : t.beatBoundary interval =
    { t with timer := t.timer.map (· + 1), beatDue := (t.timer.map (· + 1)).any (interval ≤ ·) } := by
  unfold Tracker.beatBoundary
  cases timer : t.timer with
  | some n => rfl
  | none =>
    cases t
    cases timer
    cases h
    rfl

theorem afterTransport_tracker (cue : Level) (s : State) (r : Rig) : (afterTransport cue s).tracker r =
    (s.tracker r).beatBoundary (s.settings.beat * s.settings.rate.frames / 32000) := by cases r <;> rfl

/-- Where a run that has come to its end stops (R31). -/
def endState (t : Transport) : TState := if t.parkPending = true then .parked else .ended

def endHouse (t : Transport) (p : Pos) : Option Pos :=
  if t.parkPending = true then some ⟨p.index + 1, 0, 0⟩ else some p

def endReason (t : Transport) : TransportReason := if t.parkPending = true then .park else .endOfRun

theorem runEnd_eq {s : State} {p : Pos} (house : s.tr.house = some p)
    (owned : ∀ x ∈ s.arb.inService, ∃ u ∈ s.sw.takes, u.num = x.2) : runEnd s =
      raiseTransport (endReason s.tr)
        ((s.stoppedRun (endState s.tr) (endHouse s.tr p) .endOfRun).onTc setJump) := by
  unfold runEnd endReason endState endHouse
  cases s.tr.parkPending with
  | true => rw [if_pos rfl, if_pos rfl, if_pos rfl, if_pos rfl, stopRun_eq (by decide) owned, house]; rfl
  | false =>
    rw [if_neg (by decide), if_neg (by decide), if_neg (by decide), if_neg (by decide), stopRun_eq (by decide) owned,
      house]

theorem transportBoundary_end {s : State} (st : s.tr.st = .rolling) (plan : s.tr.plan = []) :
    transportBoundary s = runEnd s := by
  rw [transportBoundary, st]
  change rollingBoundary s = _
  rw [rollingBoundary, plan]

/-- Of a tracker the loss reports leave timer and due mark. -/
theorem trackerAfter_kept (s : State) (gs : List Group) (r : Rig) : s.trackerAfter gs r =
    { s.tracker r with
      st := (s.trackerAfter gs r).st, notFound := (s.trackerAfter gs r).notFound
      causes := (s.trackerAfter gs r).causes } := by
  unfold State.trackerAfter
  dsimp only
  split
  · split <;> rfl
  · rfl

/-- The state after the transport's boundary that ends a run. -/
def State.ranOut (p : Pos) (s : State) : State :=
  raiseTransport (endReason s.tr)
    (({ nextBlock s with tc := (heldBoundary (nextBlock s)).tc }.stoppedRun (endState s.tr) (endHouse s.tr p)
      .endOfRun).onTc setJump)

theorem ranOut_tracker (s : State) (p : Pos) (r : Rig) :
    (s.ranOut p).tracker r = { s.trackerAfter s.landed r with cued := false } :=
  (stoppedRun_spec (endState s.tr) (endHouse s.tr p) .endOfRun
    { nextBlock s with tc := (heldBoundary (nextBlock s)).tc }).1 r

theorem ranOut_desk (s : State) (p : Pos) : (s.ranOut p).desk =
    s.desk.offers (s.rigStates s.tracker (fun r => { s.tracker r with cued := false }) ++
      s.rigStates (fun r => { s.tracker r with cued := false }) (s.ranOut p).tracker ++
      s.sw.takes.map (Take.closedAt .endOfRun s.landed) ++
      [.transport (endReason s.tr) (endState s.tr) (endHouse s.tr p) s.tr.cause]) (s.block + 1) := by
  have desk := (stoppedRun_spec (endState s.tr) (endHouse s.tr p) .endOfRun
    { nextBlock s with tc := (heldBoundary (nextBlock s)).tc }).2
  rw [Desk.offers_append _ [_]]
  exact congrArg (Desk.offers [.transport (endReason s.tr) (endState s.tr) (endHouse s.tr p) s.tr.cause] (s.block + 1)) desk

/-- A RIG_STATE shows state, CUED, tap and causes of a tracker, and nothing else. -/
theorem rigStates_congr {s : State} {before a b : Rig → Tracker}
    (h : ∀ r, (a r).st = (b r).st ∧ (a r).cued = (b r).cued ∧ (a r).tap = (b r).tap ∧ (a r).causes = (b r).causes) :
    s.rigStates before a = s.rigStates before b := by
  unfold State.rigStates
  simp only [fun r => (h r).1, fun r => (h r).2.1, fun r => (h r).2.2.1, fun r => (h r).2.2.2]

/-- Settles O37. -/
theorem runEndHolds : Obligations.RunEnd := by
  intro cue p s on due st plan house owned
  have ended : transportBoundary (heldBoundary (nextBlock s)) = s.ranOut p := by
    rw [heldBoundary_eq, transportBoundary_end (by exact st) (by exact plan), runEnd_eq (by exact house) (by exact owned)]
    rfl
  have row := exec_boundary on due cue
  rw [ended] at row
  have tracker (r : Rig) := (afterTransport_tracker cue (s.ranOut p) r).trans
    (congrArg (Tracker.beatBoundary _) (ranOut_tracker s p r))
  have tc : (s.ranOut p).tc = { s.tc with jump := true, held := .first, heldDue := false } :=
    (congrArg (fun x => setJump (startHeld x)) (heldBoundary_tc (nextBlock s))).trans rfl
  have grid : (afterTransport cue (s.ranOut p)).grid = none :=
    if_neg fun k => absurd (show false = true from k.2) (by decide)
  refine ⟨_, row, rfl, fun r => ?_, rfl, rfl, ?_, tc, List.length_map .., fun i g hg => landed_spec hg, ?_, ?_⟩
  · refine (tracker r).trans (Tracker.beatBoundary_eq ?_ _)
    rw [trackerAfter_kept]
    exact due.beat r
  · exact grid
  · have shown : s.rigStates (fun r => { s.tracker r with cued := false }) (afterTransport cue (s.ranOut p)).tracker =
        s.rigStates (fun r => { s.tracker r with cued := false }) (s.ranOut p).tracker := by
      refine rigStates_congr fun r => ?_
      rw [afterTransport_tracker]
      unfold Tracker.beatBoundary
      split <;> exact ⟨rfl, rfl, rfl, rfl⟩
    have desk := ranOut_desk s p
    rw [← shown] at desk
    exact congrArg Desk.kick desk
  · exact congrArg (fun g => { kick (sendReferences (afterTransport cue (s.ranOut p))) with grid := g }) grid

end Sys2Proof.Machine

end

section
/-! SUPPORT. The boundary while running (R29, R30): plan and trackers, takes, timers. -/

namespace Sys2Proof.Machine

/-! ## The append beside other fields -/

/-- Fields that no append reads or writes. -/
def State.beside (p : Nat) (c : Timecode) (x : PerRig Tracker) (s : State) : State :=
  { s with phase := p, tc := c, trackers := x }

section

variable (p : Nat) (c : Timecode) (x : PerRig Tracker)

theorem appendPlain_beside (i o q : Nat) (e : SegmentEntry) (s : State) :
    appendPlain i o q e (s.beside p c x) = (appendPlain i o q e s).beside p c x := by
  unfold appendPlain
  rw [apply_ite (State.beside p c x), apply_ite (State.beside p c x)]
  rfl

theorem appendNext_beside (n : Nat) (l : LeadPos) (e : SegmentEntry) (s : State) :
    appendNext n l e (s.beside p c x) = (appendNext n l e s).beside p c x := by
  unfold appendNext
  dsimp only
  cases e.vamp with
  | none => exact appendPlain_beside ..
  | some v =>
    dsimp only
    rw [apply_ite (State.beside p c x), apply_ite (State.beside p c x), appendPlain_beside]
    refine if_congr Iff.rfl (if_congr Iff.rfl rfl ?_) rfl
    exact congrArg (raiseDecision _ _ _ _) (appendPlain_beside p c x _ _ _ e (s.onTr fun t => { t with latch := false }))

theorem append_beside (n : Nat) (s : State) : append n (s.beside p c x) = (append n s).beside p c x := by
  have tr : (s.beside p c x).tr = s.tr := rfl
  have setList : (s.beside p c x).setList = s.setList := rfl
  unfold append
  rw [tr, setList]
  cases s.tr.lead with
  | none => rfl
  | some l =>
    dsimp only
    rw [apply_ite (State.beside p c x)]
    refine if_congr Iff.rfl rfl ?_
    cases s.setList[l.pos.index]? with
    | none => rfl
    | some e => exact appendNext_beside p c x n l e s

theorem boundaryAppend_beside (n : Nat) (s : State) :
    boundaryAppend n (s.beside p c x) = (boundaryAppend n s).beside p c x := by
  unfold boundaryAppend
  rw [apply_ite (State.beside p c x), append_beside]
  rfl

end

theorem boundaryAppend_iff (n : Nat) (s : State) : boundaryAppend n s =
    if s.tr.parkPending = true ∨ s.tr.endPending = true then s else append n s :=
  if_congr (by simp [Transport.pendingEnd]) rfl rfl

theorem boundaryAppend_planned (n : Nat) (s : State) : Planned s (boundaryAppend n s) := by
  unfold boundaryAppend
  split
  · exact .refl s
  · exact append_planned n s

/-! ## The transport's boundary while STARTING and ROLLING -/

theorem transportBoundary_starting {s : State} (st : s.tr.st = .starting) :
    transportBoundary (heldBoundary (nextBlock s)) =
      ((boundaryAppend (s.tr.countdown - 1) { s with block := s.block + 1 }).beside 0 (heldBoundary (nextBlock s)).tc
        s.trackers).onTr fun t => { t with countdown := t.countdown - 1 } := by
  rw [← boundaryAppend_beside, heldBoundary_eq]
  unfold transportBoundary
  rw [show ({ nextBlock s with tc := (heldBoundary (nextBlock s)).tc } : State).tr.st = .starting from st]
  rfl

/-- The Notices of a dequeue: SEGMENT_START, and the RIG_STATE of each READY tracker that a jump turns VERIFYING. -/
def State.dequeueNotices (e : PlanEntry) (s : State) : List NoticeBody :=
  (if e.marks.segmentStart = true then [.segmentStart e.index e.code e.marks.jump] else []) ++
    if e.marks.jump = true then
      ([.A, .B, .C].filter fun r => (s.tracker r).st == .ready).map fun r =>
        .rigState r (s.port r).link .verifying (s.tracker r).cued (s.tracker r).tap (s.tracker r).causes false
    else []

/-- The state that a boundary's append finds once the head entry has become the house position (R30). -/
def State.dequeued (e : PlanEntry) (rest : List PlanEntry) (s : State) : State :=
  { s with
    block := s.block + 1, desk := s.desk.offers (s.dequeueNotices e) (s.block + 1)
    tr := { s.tr with house := some ⟨e.index, e.offset, e.pass⟩, plan := rest, heard := true } }

/-- A tracker at a boundary that dequeues an entry: a consumed jump, or the verify countdown (R81, R82). -/
def Tracker.rolled (jump : Bool) (span : Nat) (t : Tracker) : Tracker :=
  if jump = true then t.jumped span else t.verifyBoundary

theorem rigStates_jumped (s : State) (span : Nat) : (s.rigStates s.tracker fun r => (s.tracker r).jumped span) =
    ([.A, .B, .C].filter fun r => (s.tracker r).st == .ready).map fun r =>
      .rigState r (s.port r).link .verifying (s.tracker r).cued (s.tracker r).tap (s.tracker r).causes false := by
  have shows (r : Rig) : decide ((s.tracker r).st ≠ ((s.tracker r).jumped span).st ∨
      (s.tracker r).cued ≠ ((s.tracker r).jumped span).cued ∨
      (s.tracker r).causes ≠ ((s.tracker r).jumped span).causes) = ((s.tracker r).st == .ready) := by
    by_cases ready : (s.tracker r).st = .ready
    · simp [Tracker.jumped_ready ready, ready]
    · by_cases verifying : (s.tracker r).st = .verifying
      · simp [Tracker.jumped_verifying verifying, verifying]
      · simp [Tracker.jumped_other ready verifying, ready]
  unfold State.rigStates
  rw [List.filter_congr fun r _ => shows r]
  refine List.map_congr_left fun r hr => ?_
  rw [List.mem_filter, beq_iff_eq] at hr
  dsimp only
  rw [Tracker.jumped_ready hr.2]

theorem dequeue_eq (e : PlanEntry) (rest : List PlanEntry) (c : Timecode) (s : State) :
    verifyBoundary e.marks.jump (boundaryAppend 0 (dequeue e rest { nextBlock s with tc := c })) =
      (boundaryAppend 0 (s.dequeued e rest)).beside 0
        (tcDequeue ((s.setList[e.index]?).any fun x => x.timecode.isSome) e.marks c)
        ⟨s.trackers.a.rolled e.marks.jump s.settings.verify, s.trackers.b.rolled e.marks.jump s.settings.verify,
          s.trackers.c.rolled e.marks.jump s.settings.verify⟩ := by
  have deq : dequeue e rest { nextBlock s with tc := c } = (s.dequeued e rest).beside 0
      (tcDequeue ((s.setList[e.index]?).any fun x => x.timecode.isSome) e.marks c)
      (if e.marks.jump = true then ⟨s.trackers.a.jumped s.settings.verify, s.trackers.b.jumped s.settings.verify,
        s.trackers.c.jumped s.settings.verify⟩ else s.trackers) := by
    unfold dequeue State.dequeued State.dequeueNotices
    dsimp only
    rw [jumpAll_eq, ← rigStates_jumped s s.settings.verify, Desk.offers_append]
    split <;> split <;> rfl
  rw [deq, boundaryAppend_beside]
  unfold verifyBoundary Tracker.rolled
  split <;> rfl

theorem transportBoundary_rolling {s : State} {e : PlanEntry} {rest : List PlanEntry} (st : s.tr.st = .rolling)
    (plan : s.tr.plan = e :: rest) : transportBoundary (heldBoundary (nextBlock s)) =
      (boundaryAppend 0 (s.dequeued e rest)).beside 0
        (tcDequeue ((s.setList[e.index]?).any fun x => x.timecode.isSome) e.marks (heldBoundary (nextBlock s)).tc)
        ⟨s.trackers.a.rolled e.marks.jump s.settings.verify, s.trackers.b.rolled e.marks.jump s.settings.verify,
          s.trackers.c.rolled e.marks.jump s.settings.verify⟩ := by
  rw [← dequeue_eq, heldBoundary_eq]
  generalize (heldBoundary (nextBlock s)).tc = c
  unfold transportBoundary
  rw [show ({ nextBlock s with tc := c } : State).tr.st = .rolling from st]
  dsimp only
  unfold rollingBoundary
  rw [show ({ nextBlock s with tc := c } : State).tr.plan = e :: rest from plan]

/-- The rolled tracker, by its state. -/
theorem Tracker.rolled_other {t : Tracker} (r : t.st ≠ .ready) (v : t.st ≠ .verifying) (jump : Bool) (span : Nat) :
    t.rolled jump span = t := by
  unfold Tracker.rolled
  split
  · exact Tracker.jumped_other r v span
  · exact if_neg v

theorem Tracker.rolled_frame (t : Tracker) (jump : Bool) (span : Nat) : t.rolled jump span =
    { t with
      st := (t.rolled jump span).st, verify := (t.rolled jump span).verify
      verifyDue := (t.rolled jump span).verifyDue } := by
  unfold Tracker.rolled Tracker.jumped Tracker.verifyBoundary
  split
  · split <;> rfl
  · split <;> rfl

/-- A jump leaves READY and VERIFYING together as they are. -/
theorem Tracker.rolled_live (t : Tracker) (jump : Bool) (span : Nat) :
    ((t.rolled jump span).st = .ready ∨ (t.rolled jump span).st = .verifying) ↔ (t.st = .ready ∨ t.st = .verifying) := by
  by_cases r : t.st = .ready
  · cases jump
    · simp [Tracker.rolled, Tracker.verifyBoundary, r]
    · simp [Tracker.rolled, Tracker.jumped_ready r, r]
  · by_cases v : t.st = .verifying
    · cases jump
      · simp [Tracker.rolled, Tracker.verifyBoundary, v]
      · simp [Tracker.rolled, Tracker.jumped_verifying v, v]
    · rw [Tracker.rolled_other r v]

/-! ## The takes' boundary work (R133, R139, R140) -/

/-- The take can start at its start frame, in the terms of R133. -/
def State.CanStart (s : State) (start : HouseFrame) (u : Take) : Prop :=
  u.target = .fallback ∨ (∀ m ∈ u.members, m.stage = .incoming) ∨
    ∃ r, u.target = .rig r ∧ ((s.tracker r).st = .ready ∨ (s.tracker r).st = .verifying) ∧
      framePresent (s.port r).line (start - BitVec.ofNat 37 (s.tracker r).tap) = true

theorem canStart_iff {s : State} {u : Take} : canStart s u = true ↔ s.CanStart u.startFrame u := by
  unfold canStart State.CanStart
  cases u.target with
  | fallback => simp
  | rig r => simp [State.isPresent, tapFrame]

theorem CanStart_congr {s t : State} (live : ∀ r, ((t.tracker r).st = .ready ∨ (t.tracker r).st = .verifying) ↔
    ((s.tracker r).st = .ready ∨ (s.tracker r).st = .verifying)) (tap : ∀ r, (t.tracker r).tap = (s.tracker r).tap)
    (ports : t.ports = s.ports) (start : HouseFrame) (u : Take) : t.CanStart start u ↔ s.CanStart start u := by
  unfold State.CanStart State.port
  simp only [live, tap, ports]

theorem takeBoundary_starts {s : State} {u : Take} (st : u.st = .waiting)
    (can : s.CanStart (firstFrame s.block) u) :
    takeBoundary s u = { u with startFrame := firstFrame s.block, due := some .start } := by
  have starts : canStart s { u with startFrame := firstFrame s.block } = true := canStart_iff.2 can
  rw [st] at starts
  rw [takeBoundary, st]
  dsimp only
  rw [if_pos starts]

theorem takeBoundary_waits {s : State} {u : Take} (st : u.st = .waiting)
    (cannot : ¬s.CanStart (firstFrame s.block) u) : takeBoundary s u =
      { u with
        startFrame := firstFrame s.block, wait := u.wait + 1, due := if 3 ≤ u.wait then some .waitExpiry else none } := by
  have limit : Config.waitLimit ≤ u.wait + 1 ↔ 3 ≤ u.wait := Nat.succ_le_succ_iff
  have waits : ¬canStart s { u with startFrame := firstFrame s.block } = true := fun k => cannot (canStart_iff.1 k)
  rw [st] at waits
  rw [takeBoundary, st]
  dsimp only
  rw [if_neg waits]
  simp only [limit]

theorem takeBoundary_blends {s : State} {u : Take} (st : u.st = .blending) (due : u.due = none) :
    takeBoundary s u =
      let ramp := min u.blendLength (firstFrame s.block - u.startFrame).toNat
      { u with ramp := ramp, due := if u.blendLength ≤ ramp then some .rampEnd else none } := by
  rw [takeBoundary, st]
  dsimp only
  unfold Take.rampDone
  split <;> rename_i done
  · have full : u.blendLength ≤ min u.blendLength (firstFrame s.block - u.startFrame).toNat := by
      simpa [st] using done
    simp only [if_pos full]
  · have partial_ : ¬u.blendLength ≤ min u.blendLength (firstFrame s.block - u.startFrame).toNat := by
      simpa [st] using done
    simp only [if_neg partial_, due]

theorem takeBoundary_settles {s : State} {u : Take} (st : u.st = .settling) : takeBoundary s u =
    { u with settleCount := u.settleCount - 1, due := if u.settleCount - 1 = 0 then some .settleEnd else none } := by
  rw [takeBoundary, st]

end Sys2Proof.Machine

end

section
/-! SUPPORT. The boundary while running (R29, R30), with nothing left due. -/

namespace Sys2Proof.Machine

theorem afterTransport_tr (cue : Level) (s : State) : (afterTransport cue s).tr =
    { s.tr with cueCount := if cue = s.tr.cueLevel then 0 else s.tr.cueCount + 1 } := rfl

theorem afterTransport_tc (cue : Level) (s : State) : (afterTransport cue s).tc = s.tc := rfl

theorem afterTransport_grid (cue : Level) (s : State) : (afterTransport cue s).grid =
    if s.tr.st = .rolling ∧ s.tr.heard = true then s.houseEntry.bind (gridOf s.settings.rate) else none := rfl

/-! ## What the transport's boundary leaves of the timers -/

/-- Cue line, beat timers and balances stay through the transport's work. -/
structure TimersKept (s t : State) : Prop where
  level : t.tr.cueLevel = s.tr.cueLevel
  count : t.tr.cueCount = s.tr.cueCount
  timer : ∀ r, (t.tracker r).timer = (s.tracker r).timer
  due : ∀ r, (t.tracker r).beatDue = (s.tracker r).beatDue
  balance : ∀ r, (t.tracker r).balance = (s.tracker r).balance

theorem stopRun_timersKept (st : TState) (house : Option Pos) (c : Close) (s : State) :
    TimersKept s (stopRun st house c s) := by
  have work : ArbiterWork ((s.onTr (·.stop st house)).allTold Tracker.uncued)
      (closeAll c (clearAllCued (s.onTr (·.stop st house)))) := by
    rw [clearAllCued_eq]
    exact .closeAll c _
  have tr : (stopRun st house c s).tr = s.tr.stop st house := work.tr
  have tracker (r : Rig) := work.tracker r
  simp only [State.allTold_tracker] at tracker
  refine ⟨by rw [tr]; rfl, by rw [tr]; rfl, fun r => ?_, fun r => ?_, fun r => ?_⟩
  · exact congrArg (·.timer) (tracker r)
  · exact congrArg (·.beatDue) (tracker r)
  · exact congrArg (·.balance) (tracker r)

theorem transportBoundary_timersKept (s : State) :
    TimersKept s (transportBoundary (heldBoundary (nextBlock s))) := by
  have stopped (h : s.Stopped) : TimersKept s (transportBoundary (heldBoundary (nextBlock s))) := by
    rw [transportBoundary_stopped (by rw [heldBoundary_eq]; exact h), heldBoundary_eq]
    exact ⟨rfl, rfl, fun _ => rfl, fun _ => rfl, fun _ => rfl⟩
  cases st : s.tr.st with
  | idle => exact stopped ⟨by rw [st]; nofun, by rw [st]; nofun⟩
  | parked => exact stopped ⟨by rw [st]; nofun, by rw [st]; nofun⟩
  | ended => exact stopped ⟨by rw [st]; nofun, by rw [st]; nofun⟩
  | starting =>
    have planned := boundaryAppend_planned (s.tr.countdown - 1) { s with block := s.block + 1 }
    rw [transportBoundary_starting st]
    exact ⟨congrArg (·.cueLevel) planned.tr, congrArg (·.cueCount) planned.tr, fun _ => rfl, fun _ => rfl, fun _ => rfl⟩
  | rolling =>
    cases plan : s.tr.plan with
    | nil =>
      rw [heldBoundary_eq, transportBoundary_end (by exact st) (by exact plan)]
      unfold runEnd
      split
      · obtain ⟨level, count, timer, due, balance⟩ := stopRun_timersKept .parked
          (({ nextBlock s with tc := (heldBoundary (nextBlock s)).tc } : State).tr.house.map
            fun p => ⟨p.index + 1, 0, 0⟩) .endOfRun { nextBlock s with tc := (heldBoundary (nextBlock s)).tc }
        exact ⟨level, count, timer, due, balance⟩
      · obtain ⟨level, count, timer, due, balance⟩ := stopRun_timersKept .ended
          ({ nextBlock s with tc := (heldBoundary (nextBlock s)).tc } : State).tr.house .endOfRun
          { nextBlock s with tc := (heldBoundary (nextBlock s)).tc }
        exact ⟨level, count, timer, due, balance⟩
    | cons e rest =>
      have planned := boundaryAppend_planned 0 (s.dequeued e rest)
      rw [transportBoundary_rolling st plan]
      have rolled (t : Tracker) := t.rolled_frame e.marks.jump s.settings.verify
      refine ⟨congrArg (·.cueLevel) planned.tr, congrArg (·.cueCount) planned.tr, fun r => ?_, fun r => ?_, fun r => ?_⟩
      · cases r <;> exact congrArg (·.timer) (rolled _)
      · cases r <;> exact congrArg (·.beatDue) (rolled _)
      · cases r <;> exact congrArg (·.balance) (rolled _)

/-! ## The trackers at a boundary that ends no run -/

theorem boundary_trackers_still {s : State} (st : s.tr.st ≠ .rolling) (r : Rig) :
    (transportBoundary (heldBoundary (nextBlock s))).tracker r = s.tracker r := by
  by_cases starting : s.tr.st = .starting
  · rw [transportBoundary_starting starting]
    rfl
  · rw [transportBoundary_stopped (by rw [heldBoundary_eq]; exact ⟨starting, st⟩), heldBoundary_eq]
    rfl

theorem boundary_trackers_rolled {s : State} {e : PlanEntry} {rest : List PlanEntry} (st : s.tr.st = .rolling)
    (plan : s.tr.plan = e :: rest) (r : Rig) : (transportBoundary (heldBoundary (nextBlock s))).tracker r =
      (s.tracker r).rolled e.marks.jump s.settings.verify := by
  rw [transportBoundary_rolling st plan]
  cases r <;> rfl

theorem boundary_trackers_live {s : State} (more : s.tr.st = .rolling → s.tr.plan ≠ []) (r : Rig) :
    ((((transportBoundary (heldBoundary (nextBlock s))).tracker r).st = .ready ∨
        ((transportBoundary (heldBoundary (nextBlock s))).tracker r).st = .verifying) ↔
      ((s.tracker r).st = .ready ∨ (s.tracker r).st = .verifying)) ∧
      ((transportBoundary (heldBoundary (nextBlock s))).tracker r).tap = (s.tracker r).tap := by
  by_cases st : s.tr.st = .rolling
  · obtain ⟨e, rest, plan⟩ := List.exists_cons_of_ne_nil (more st)
    rw [boundary_trackers_rolled st plan]
    exact ⟨Tracker.rolled_live .., congrArg (·.tap) (Tracker.rolled_frame ..)⟩
  · rw [boundary_trackers_still st]
    exact ⟨Iff.rfl, rfl⟩

theorem Tracker.beatBoundary_frame (t : Tracker) (n : Nat) :
    t.beatBoundary n = { t with timer := (t.beatBoundary n).timer, beatDue := (t.beatBoundary n).beatDue } := by
  unfold Tracker.beatBoundary
  split <;> rfl

/-! ## The claims of one boundary -/

/-- STARTING: one append with all it does, the countdown one lower (R29). -/
theorem startingBoundary_spec {cue : Level} {s : State} (on : s.power = true) (due : s.NothingDue) {n : Nat}
    (st : s.tr.st = .starting) (countdown : s.tr.countdown = n + 1) :
    let v : State := boundaryAppend n { s with block := s.block + 1 }
    ∃ t : State, exec (.houseBlockBoundary cue) s = .next t ∧ t.tr.st = .starting ∧ t.tr.house = s.tr.house ∧
      t.tr = { v.tr with
        countdown := n, cueCount := if cue = s.tr.cueLevel then 0 else s.tr.cueCount + 1 } ∧
      t.desk = v.desk.kick ∧ t.groups = s.groups ∧ t.arb = s.arb ∧ t.grid = none := by
  intro v
  have planned : Planned { s with block := s.block + 1 } v := boundaryAppend_planned n _
  have row := exec_boundary on due cue
  rw [transportBoundary_starting st, countdown, Nat.add_sub_cancel] at row
  change _ = Host.Outcome.next (kick (sendReferences (afterTransport cue ((v.beside _ _ _).onTr _)))) at row
  clear_value v
  have st' : v.tr.st = .starting := (congrArg (·.st) planned.tr).trans st
  have less : v.tr.countdown - 1 = n := by
    have same : v.tr.countdown = s.tr.countdown := congrArg (·.countdown) planned.tr
    omega
  have level : v.tr.cueLevel = s.tr.cueLevel := congrArg (·.cueLevel) planned.tr
  have count : v.tr.cueCount = s.tr.cueCount := congrArg (·.cueCount) planned.tr
  refine ⟨_, row, st', congrArg (·.house) planned.tr, ?_, rfl, congrArg (·.groups) planned.frame,
    congrArg (·.arb) planned.frame, ?_⟩
  · rw [← level, ← count]
    exact congrArg (fun k => { v.tr with
      countdown := k, cueCount := if cue = v.tr.cueLevel then 0 else v.tr.cueCount + 1 }) less
  · exact (afterTransport_grid ..).trans (if_neg fun k => absurd (st'.symm.trans k.1) (by decide))

/-- ROLLING: the head entry becomes the house position, then one append (R30). -/
theorem rollingBoundary_spec {cue : Level} {s : State} (on : s.power = true) (due : s.NothingDue) {e : PlanEntry}
    {rest : List PlanEntry} (st : s.tr.st = .rolling) (plan : s.tr.plan = e :: rest) :
    let v : State := boundaryAppend 0 (s.dequeued e rest)
    ∃ t : State, exec (.houseBlockBoundary cue) s = .next t ∧ t.tr.st = .rolling ∧
      t.tr.house = some ⟨e.index, e.offset, e.pass⟩ ∧ t.tr.heard = true ∧
      t.tr = { v.tr with cueCount := if cue = s.tr.cueLevel then 0 else s.tr.cueCount + 1 } ∧
      t.desk = v.desk.kick ∧ t.groups = s.groups ∧ t.arb = s.arb ∧
      ∀ r, t.tracker r = ((s.tracker r).rolled e.marks.jump s.settings.verify).beatBoundary
        (s.settings.beat * s.settings.rate.frames / 32000) := by
  intro v
  have planned : Planned (s.dequeued e rest) v := boundaryAppend_planned 0 _
  have row := exec_boundary on due cue
  rw [transportBoundary_rolling st plan] at row
  change _ = Host.Outcome.next (kick (sendReferences (afterTransport cue (v.beside _ _ _)))) at row
  clear_value v
  have level : v.tr.cueLevel = s.tr.cueLevel := congrArg (·.cueLevel) planned.tr
  have count : v.tr.cueCount = s.tr.cueCount := congrArg (·.cueCount) planned.tr
  have settings : v.settings = s.settings := congrArg (·.settings) planned.frame
  refine ⟨_, row, (congrArg (·.st) planned.tr).trans st, congrArg (·.house) planned.tr, congrArg (·.heard) planned.tr, ?_,
    rfl, congrArg (·.groups) planned.frame, congrArg (·.arb) planned.frame, fun r => ?_⟩
  · rw [← level, ← count]
    rfl
  · refine (afterTransport_tracker cue _ r).trans ?_
    change Tracker.beatBoundary (v.settings.beat * v.settings.rate.frames / 32000) _ = _
    rw [settings]
    cases r <;> rfl

/-- The takes at a boundary that ends no run. -/
theorem takesBoundary_spec {cue : Level} {s : State} (on : s.power = true) (due : s.NothingDue)
    (more : s.tr.st = .rolling → s.tr.plan ≠ []) :
    ∃ (t u : State), exec (.houseBlockBoundary cue) s = .next t ∧
      t.sw = { s.sw with takes := s.sw.takes.map (takeBoundary u) } ∧ u.block = s.block + 1 ∧
      ∀ start x, u.CanStart start x ↔ s.CanStart start x := by
  have row := exec_boundary on due cue
  have moved := transportBoundary_eq (s := heldBoundary (nextBlock s)) (by rw [heldBoundary_eq]; exact more)
  have held := heldBoundary_eq (nextBlock s)
  have live := boundary_trackers_live more
  generalize transportBoundary (heldBoundary (nextBlock s)) = w at *
  have sw : w.sw = s.sw := (congrArg (·.sw) moved).trans (congrArg (·.sw) held)
  have block : w.block = s.block + 1 := (congrArg (·.block) moved).trans (congrArg (·.block) held)
  have ports : w.ports = s.ports := (congrArg (·.ports) moved).trans (congrArg (·.ports) held)
  refine ⟨_, beatBoundary (cueSample cue w), row, ?_, block, fun start x => CanStart_congr (t := beatBoundary (cueSample cue w))
    (fun r => ?_) (fun r => ?_) ports start x⟩
  · rw [← sw]
    rfl
  all_goals
    have tracker : (beatBoundary (cueSample cue w)).tracker r = _ := afterTransport_tracker cue w r
    rw [tracker, Tracker.beatBoundary_frame]
  · exact (live r).1
  · exact (live r).2

end Sys2Proof.Machine

end

section
/-! SUPPORT. The boundary while running: the verify spans, the held message and the click grid. -/

namespace Sys2Proof.Machine

/-! ## The verify spans (R81, R82) -/

section

variable {t : Tracker} {span : Nat}

theorem Tracker.rolled_jump (h : t.st = .ready ∨ t.st = .verifying) :
    (t.rolled true span).st = .verifying ∧ (t.rolled true span).verify = span := by
  obtain h | h := h
  · have e : t.rolled true span = _ := Tracker.jumped_ready h span
    rw [e]
    exact ⟨rfl, rfl⟩
  · have e : t.rolled true span = _ := Tracker.jumped_verifying h span
    rw [e]
    exact ⟨h, rfl⟩

theorem Tracker.rolled_jump_due (due : t.verifyDue = false) : (t.rolled true span).verifyDue = false := by
  change (t.jumped span).verifyDue = false
  unfold Tracker.jumped
  split
  · rfl
  · rfl
  · exact due

theorem Tracker.rolled_plain_other (h : t.st ≠ .verifying) : t.rolled false span = t := if_neg h

theorem Tracker.rolled_plain_verifying (h : t.st = .verifying) :
    t.rolled false span = { t with verify := t.verify - 1, verifyDue := decide (t.verify ≤ 1) } := if_pos h

end

/-! ## The held message (R164) -/

section

variable {s : State}

theorem heldBoundary_stopped (h : s.tc.held = .stopped) : (heldBoundary (nextBlock s)).tc = s.tc := by
  unfold heldBoundary
  rw [show (nextBlock s).tc.held = .stopped from h]
  rfl

theorem heldBoundary_first (h : s.tc.held = .first) :
    (heldBoundary (nextBlock s)).tc = { s.tc with held := .counting 0, heldDue := true } := by
  unfold heldBoundary
  rw [show (nextBlock s).tc.held = .first from h]
  rfl

theorem heldBoundary_counting (due : s.tc.heldDue = false) {n : Nat} (h : s.tc.held = .counting n) : (heldBoundary (nextBlock s)).tc =
    if 100 * s.settings.rate.frames / 32000 ≤ n + 1 then { s.tc with held := .counting 0, heldDue := true }
    else { s.tc with held := .counting (n + 1), heldDue := false } := by
  unfold heldBoundary
  rw [show (nextBlock s).tc.held = .counting n from h]
  dsimp only
  rw [apply_ite State.tc, ← due]
  rfl

end

/-- What a dequeue makes of the timecode generator, by what it enters (R163, R164). -/
theorem tcDequeue_eq (has : Bool) (m : Marks) (t : Timecode) : tcDequeue has m t =
    let u := if has = true then stopHeld t else if m.segmentStart = true ∨ m.jump = true then startHeld t else t
    if m.loop = true ∨ m.jump = true then setJump u else u := by
  unfold tcDequeue
  simp only [Bool.or_eq_true]
  by_cases moved : m.loop = true ∨ m.jump = true
  · rw [if_pos moved, if_pos moved, apply_ite setJump, apply_ite setJump]
    rfl
  · rw [if_neg moved, if_neg moved]

section

variable {m : Marks} {t : Timecode}

theorem tcDequeue_timecode : tcDequeue true m t =
    if m.loop = true ∨ m.jump = true then setJump (stopHeld t) else stopHeld t := tcDequeue_eq true m t

theorem tcDequeue_enters (h : m.segmentStart = true ∨ m.jump = true) : tcDequeue false m t =
    if m.loop = true ∨ m.jump = true then setJump (startHeld t) else startHeld t := by
  rw [tcDequeue_eq, if_pos h]
  rfl

theorem tcDequeue_stays (start : m.segmentStart = false) (jump : m.jump = false) : tcDequeue false m t =
    if m.loop = true ∨ m.jump = true then setJump t else t := by
  rw [tcDequeue_eq, if_neg (show ¬(m.segmentStart = true ∨ m.jump = true) by simp [start, jump])]
  rfl

end

/-- Outside ROLLING the boundary's transport work leaves the timecode generator and does not begin ROLLING. -/
theorem boundary_not_rolling {s : State} (st : s.tr.st ≠ .rolling) :
    (transportBoundary (heldBoundary (nextBlock s))).tr.st ≠ .rolling ∧
      (transportBoundary (heldBoundary (nextBlock s))).tc = (heldBoundary (nextBlock s)).tc := by
  by_cases starting : s.tr.st = .starting
  · have planned := boundaryAppend_planned (s.tr.countdown - 1) { s with block := s.block + 1 }
    rw [transportBoundary_starting starting]
    exact ⟨fun e => st ((congrArg (·.st) planned.tr).symm.trans e), rfl⟩
  · rw [transportBoundary_stopped (by rw [heldBoundary_eq]; exact ⟨starting, st⟩)]
    exact ⟨by rw [heldBoundary_eq]; exact st, rfl⟩

/-- In ROLLING the boundary enters the head entry: its timecode and its grid. -/
theorem boundary_enters {s : State} {e : PlanEntry} {rest : List PlanEntry} {x : SegmentEntry} (st : s.tr.st = .rolling)
    (plan : s.tr.plan = e :: rest) (entry : s.setList[e.index]? = some x) (cue : Level) :
    (afterTransport cue (transportBoundary (heldBoundary (nextBlock s)))).tc =
        tcDequeue x.timecode.isSome e.marks (heldBoundary (nextBlock s)).tc ∧
      (afterTransport cue (transportBoundary (heldBoundary (nextBlock s)))).grid = gridOf s.settings.rate x := by
  have planned := boundaryAppend_planned 0 (s.dequeued e rest)
  rw [transportBoundary_rolling st plan, entry]
  generalize boundaryAppend 0 (s.dequeued e rest) = v at *
  have house : v.tr.house = some ⟨e.index, e.offset, e.pass⟩ := congrArg (·.house) planned.tr
  have setList : v.setList = s.setList := congrArg (·.setList) planned.frame
  have settings : v.settings = s.settings := congrArg (·.settings) planned.frame
  refine ⟨rfl, (afterTransport_grid ..).trans ((if_pos ⟨(congrArg (·.st) planned.tr).trans st,
    congrArg (·.heard) planned.tr⟩).trans ?_)⟩
  change (v.tr.house.bind fun p => v.setList[p.index]?).bind (gridOf v.settings.rate) = _
  rw [house, setList, settings, Option.bind_some, entry, Option.bind_some]

/-- Settles O36. -/
theorem runningBoundary : Obligations.RunningBoundary := by
  refine ⟨fun cue s on due => ⟨fun n st countdown => ?_, fun e rest st plan => ?_⟩, fun cue s on due more => ?_,
    fun cue s on due => ?_⟩
  · have spec := startingBoundary_spec (cue := cue) on due st countdown
    rw [boundaryAppend_iff] at spec
    exact spec
  · have spec := rollingBoundary_spec (cue := cue) on due st plan
    rw [boundaryAppend_iff] at spec
    obtain ⟨t, row, st', house, heard, tr, desk, groups, arb, trackers⟩ := spec
    have tracker (r : Rig) := (trackers r).trans (Tracker.beatBoundary_frame _ _)
    refine ⟨t, row, st', house, heard, tr, desk, groups, arb, fun jump r live => ?_, fun jump r => ?_, fun r nr nv => ?_,
      fun plain r nv => ?_, fun plain r => ?_⟩
    all_goals rw [tracker r]; dsimp only
    · rw [jump]
      exact Tracker.rolled_jump live
    · rw [jump]
      exact Tracker.rolled_jump_due (due.verify r)
    · rw [Tracker.rolled_other nr nv]
      exact ⟨rfl, rfl⟩
    · rw [plain, Tracker.rolled_plain_other nv]
      exact ⟨rfl, due.verify r⟩
    · rw [plain]
      by_cases v : (s.tracker r).st = .verifying
      · rw [Tracker.rolled_plain_verifying v]
        exact ⟨rfl, fun _ => ⟨rfl, decide_eq_true_iff⟩⟩
      · rw [Tracker.rolled_plain_other v]
        exact ⟨rfl, fun k => absurd k v⟩
  · obtain ⟨t, u, row, sw, block, can⟩ := takesBoundary_spec (cue := cue) on due more
    refine ⟨t, row, by rw [sw], by rw [sw]; exact List.length_map .., fun i x hx => ?_⟩
    have at_ : t.sw.takes[i]? = some (takeBoundary u x) := by
      rw [sw, List.getElem?_map, hx]
      rfl
    rw [at_, ← block]
    exact ⟨fun st can' => congrArg _ (takeBoundary_starts st ((can ..).2 can')),
      fun st cannot => congrArg _ (takeBoundary_waits st (mt (can ..).1 cannot)),
      fun st => congrArg _ (takeBoundary_blends st (due.takes x (List.mem_of_getElem? hx))),
      fun st => congrArg _ (takeBoundary_settles st)⟩
  · have row := exec_boundary on due cue
    have kept := transportBoundary_timersKept s
    have settings : (transportBoundary (heldBoundary (nextBlock s))).settings = s.settings :=
      congrArg (·.settings) ((Runs.heldBoundary (nextBlock s)).trans (Runs.transportBoundary _))
    have tracker (r : Rig) := afterTransport_tracker cue (transportBoundary (heldBoundary (nextBlock s))) r
    rw [settings] at tracker
    have clear (r : Rig) := (kept.due r).trans (due.beat r)
    have still (st : s.tr.st ≠ .rolling) (r : Rig) := boundary_trackers_still st r
    have rolled {e : PlanEntry} {rest : List PlanEntry} (st : s.tr.st = .rolling) (plan : s.tr.plan = e :: rest)
      (r : Rig) := boundary_trackers_rolled st plan r
    have not_rolling (st : s.tr.st ≠ .rolling) := boundary_not_rolling st
    have enter {e : PlanEntry} {rest : List PlanEntry} {x : SegmentEntry} (st : s.tr.st = .rolling)
      (plan : s.tr.plan = e :: rest) (entry : s.setList[e.index]? = some x) := boundary_enters st plan entry cue
    generalize transportBoundary (heldBoundary (nextBlock s)) = w at *
    intro blocks held cadence
    have held_cadence : (heldBoundary (nextBlock s)).tc = cadence := by
      cases h : s.tc.held with
      | stopped => simpa only [cadence, h] using heldBoundary_stopped h
      | first => simpa only [cadence, h] using heldBoundary_first h
      | counting n => simpa only [cadence, h] using heldBoundary_counting due.held h
    refine ⟨_, row, kept.level, ?_, fun r => ⟨fun none_ => ?_, fun n some_ => ?_⟩, fun st r => ?_, fun st more r => ?_,
      fun r => ?_, fun st => ?_, fun e rest x st plan entry => ?_⟩
    · rw [← kept.level, ← kept.count]
      rfl
    · rw [← kept.timer r] at none_
      refine Eq.subst (motive := fun t => t.timer = none ∧ t.beatDue = false) (tracker r).symm ?_
      rw [Tracker.beatBoundary_eq (clear r), none_]
      exact ⟨rfl, rfl⟩
    · rw [← kept.timer r] at some_
      refine Eq.subst (motive := fun t => t.timer = some (n + 1) ∧ (t.beatDue = true ↔ _)) (tracker r).symm ?_
      rw [Tracker.beatBoundary_eq (clear r), some_]
      exact ⟨rfl, decide_eq_true_iff⟩
    · refine Eq.subst (motive := fun t => t = { s.tracker r with timer := t.timer, beatDue := t.beatDue })
        (tracker r).symm ?_
      rw [still st]
      exact Tracker.beatBoundary_frame ..
    · obtain ⟨e, rest, plan⟩ := List.exists_cons_of_ne_nil more
      refine Eq.subst (motive := fun t => t = { s.tracker r with
        st := t.st, verify := t.verify, verifyDue := t.verifyDue, timer := t.timer, beatDue := t.beatDue })
        (tracker r).symm ?_
      rw [rolled st plan, Tracker.beatBoundary_frame, Tracker.rolled_frame]
    · refine Eq.subst (motive := fun t => t.balance = (s.tracker r).balance) (tracker r).symm ?_
      rw [Tracker.beatBoundary_frame]
      exact kept.balance r
    · obtain ⟨other, tc⟩ := not_rolling st
      exact ⟨(afterTransport_tc cue w).trans (tc.trans held_cadence),
        (afterTransport_grid cue w).trans (if_neg fun k => other k.1)⟩
    · obtain ⟨tc, grid⟩ := enter st plan entry
      have tc_eq := heldBoundary_tc (nextBlock s)
      refine ⟨fun has => tc.trans ?_, fun none_ enters => tc.trans ?_, fun none_ start jump => tc.trans ?_,
        fun none_ => grid.trans ?_, fun y some_ => grid.trans ?_⟩
      · rw [has, tcDequeue_timecode, tc_eq]
        rfl
      · rw [none_]
        refine (tcDequeue_enters enters).trans ?_
        rw [tc_eq]
        rfl
      · rw [none_]
        refine (tcDequeue_stays start jump).trans ?_
        rw [held_cadence]
        rfl
      · rw [gridOf, none_]
        rfl
      · rw [gridOf, some_]
        cases s.settings.rate <;> rfl

end Sys2Proof.Machine

end

section
/-! SUPPORT. The arbiter at work on one request in a quiet state (R108 to R119, R131). -/

namespace Sys2Proof.Machine

/-! ## A take opened in an empty table -/

theorem takeNumber_empty {sw : Switch} (takes : sw.takes = []) (next : sw.next < 256) : takeNumber sw = sw.next := by
  have range : List.range 256 = 0 :: (List.range 255).map Nat.succ := List.range_succ_eq_map
  unfold takeNumber
  rw [takes, range, List.map_cons, List.find?_cons_of_pos rfl, Nat.add_zero, Option.getD_some, Nat.mod_eq_of_lt next]

theorem lossReports_same (s : State) : lossReports s.groups s = s :=
  (writeGroups_eq id s).trans s.regrouped_same

/-- The members of a take that is opened for groups none of which stands on the target. -/
def freshMembers (target : Source) (gs : List Group) : List Member :=
  gs.map fun g => ⟨g.num, g.source, if target = .fallback then .cut else g.gdef.kind, .outgoing⟩

/-- The record of a take opened for groups in an empty table. -/
def State.freshTake (level : Nat) (cause : Cause) (rig : Rig) (target : Source) (gs : List Group) (s : State) : Take :=
  { num := s.sw.next, levels := [level], cause := cause, rig := rig, target := target
    members := freshMembers target gs, dropped := [], blendLength := s.settings.blend * 32
    settlePeriod := s.settings.settle, st := .waiting, startFrame := firstFrame (s.block + 1), wait := 0, engine := none
    ramp := 0, settleCount := 0, due := none }

section

variable {s : State} {target : Source} {gs : List Group}

theorem newMembers_fresh (kinds : ∀ g ∈ gs, (findGroup s.groups g.num).map (·.gdef.kind) = some g.gdef.kind)
    (apart : ∀ g ∈ gs, g.source ≠ target) :
    ((presentMembers gs).map fun x => (x.1, joinSource [] x)).map (newMember s target) = freshMembers target gs := by
  unfold presentMembers freshMembers
  rw [List.map_map, List.map_map]
  refine List.map_congr_left fun g hg => ?_
  change newMember s target (g.num, g.source) = _
  rw [newMember, kinds g hg, joinStage, if_neg (apart g hg)]
  rfl

theorem openTake_empty (takes : s.sw.takes = []) (next : s.sw.next < 256)
    (kinds : ∀ g ∈ gs, (findGroup s.groups g.num).map (·.gdef.kind) = some g.gdef.kind)
    (apart : ∀ g ∈ gs, g.source ≠ target) (level : Nat) (cause : Cause) (rig : Rig) :
    openTake ⟨level, cause, rig, target, presentMembers gs⟩ s =
      { s with
        sw := ⟨[s.freshTake level cause rig target gs], (s.sw.next + 1) % 256⟩
        desk := s.desk.offer (.takeBegun s.sw.next cause [level] target (freshMembers target gs) [] false []) s.block } := by
  have before : beforeJoin ⟨level, cause, rig, target, presentMembers gs⟩ s =
      { s with sw := ⟨s.sw.takes, (s.sw.next + 1) % 256⟩ } := by
    unfold beforeJoin
    rw [takes, List.filter_nil, List.foldl_nil, takeNumber_empty takes next, ← takes]
    exact lossReports_same { s with sw := { s.sw with next := (s.sw.next + 1) % 256 } }
  have opened : openedTake ⟨level, cause, rig, target, presentMembers gs⟩ s = s.freshTake level cause rig target gs := by
    unfold openedTake
    rw [before, takes, takeNumber_empty takes next,
      newMembers_fresh (s := { s with sw := ⟨_, (s.sw.next + 1) % 256⟩ }) kinds apart]
    rfl
  rw [openTake_eq, opened, before, takes, takeNumber_empty takes next]
  rfl

end

/-! ## One request examined -/

theorem findGroup_kind {s : State} (apart : (s.groups.map (·.num)).Nodup) {g : Group} (h : g ∈ s.groups) :
    (findGroup s.groups g.num).map (·.gdef.kind) = some g.gdef.kind := by
  rw [findGroup_eq_some h fun x hx e => List.inj_on_of_nodup_map apart hx h e]
  rfl

/-- A service that opens a take in a state with nothing in service. -/
theorem openService_quiet {s : State} {target : Source} {gs : List Group} {q : Request} (quiet : s.Quiet)
    (kinds : ∀ g ∈ gs, (findGroup s.groups g.num).map (·.gdef.kind) = some g.gdef.kind)
    (apart : ∀ g ∈ gs, g.source ≠ target) :
    openService ⟨q.level, q.cause, q.rig, target, presentMembers gs⟩ s = s.opened q target gs := by
  unfold openService
  dsimp only
  rw [openTake_empty quiet.takes quiet.next kinds apart, takeNumber_empty quiet.takes quiet.next]
  change ({ s with
    sw := _, arb := ⟨s.arb.requests, insertLevel (q.level, s.sw.next) s.arb.inService⟩, desk := _ } : State) = _
  rw [quiet.inService, quiet.requests]
  rfl

theorem withdrawFrom_none {s : State} (h : s.arb.requests = []) (r : Rig) (n : Nat) : withdrawFrom r n s = s := by
  have none_ : s.arb.requests.filter (fun q => !(q.rig == r && decide (n ≤ q.level))) = s.arb.requests := by
    rw [h, List.filter_nil]
  exact congrArg (fun qs => { s with arb := { s.arb with requests := qs } }) none_

theorem mem_followOn {gs : List Group} {r : Rig} {g : Group} : g ∈ followOn gs r ↔
    g ∈ gs ∧ g.gdef.follow = .follow ∧ g.source = .rig r := by
  simp [followOn, Group.follows]

theorem chooseTarget_ne {s : State} {f : Rig} {dropped : List Rig} {r : Rig}
    (h : chooseTarget s (some f) dropped = some r) : f ≠ r := by
  have := List.find?_some h
  simp only [Bool.and_eq_true, Bool.not_eq_true', beq_eq_false_iff_ne, Option.some.injEq, ne_eq] at this
  obtain ⟨⟨-, ne⟩, -⟩ := this
  exact ne

/-- A detection's service in a quiet state; no request stands after it. -/
theorem serviceDetection_quiet {q : Request} {s : State} (quiet : s.Quiet) :
    (serviceDetection q s).1 = s.served q ∧ (s.served q).arb.requests = [] := by
  have off {g : Group} (hg : g ∈ followOn s.groups q.rig) : g.source = .rig q.rig := (mem_followOn.1 hg).2.2
  have kinds (g : Group) (hg : g ∈ followOn s.groups q.rig) := findGroup_kind quiet.groups (mem_followOn.1 hg).1
  unfold serviceDetection State.served
  dsimp only
  change _ ∧ (match chooseTarget s (some q.rig) [] with
    | some r => s.opened q (.rig r) (followOn s.groups q.rig)
    | none => _).arb.requests = []
  cases target : chooseTarget s (some q.rig) [] with
  | some r =>
    have apart (g : Group) (hg : g ∈ followOn s.groups q.rig) : g.source ≠ .rig r := by
      rw [off hg]
      exact fun e => chooseTarget_ne target (Source.rig.inj e)
    dsimp only
    rw [openService_quiet quiet kinds apart, withdrawFrom_none rfl]
    exact ⟨rfl, rfl⟩
  | none =>
    dsimp only
    by_cases link : q.cause = .link
    · rw [if_pos link, if_pos link, takeNumber_empty quiet.takes quiet.next]
      have quiet' : State.Quiet (raise (.noCover q.cause q.level q.rig .fallback
          ((followOn s.groups q.rig).map (·.num)) (some s.sw.next)) s) :=
        ⟨quiet.takes, quiet.requests, quiet.inService, quiet.groups, quiet.next⟩
      have apart (g : Group) (hg : g ∈ followOn s.groups q.rig) : g.source ≠ .fallback := by
        rw [off hg]
        nofun
      rw [openService_quiet quiet' kinds apart, withdrawFrom_none rfl]
      exact ⟨rfl, rfl⟩
    · rw [if_neg link, if_neg link]
      refine ⟨(withdrawFrom_none (s := raise _ (markUncovered q.rig s)) quiet.requests ..).trans ?_, rfl⟩
      have arb : s.arb = ⟨[], []⟩ := by
        rw [← quiet.requests, ← quiet.inService]
      change raise _ { s with groups := _ } = raise _ { s with arb := ⟨[], []⟩, groups := _ }
      rw [← arb]
      simp [Group.follows]
      rfl

theorem mem_inDifficulty {gs : List Group} {g : Group} : g ∈ inDifficulty gs ↔
    g ∈ gs ∧ g.gdef.follow = .follow ∧ (g.source = .fallback ∨ g.uncovered = true) := by
  simp [inDifficulty, Group.follows]

/-- A RECOVER service in a quiet state; no request stands after it. -/
theorem serviceRecover_quiet {q : Request} {s : State} (quiet : s.Quiet) :
    (serviceRecover q s).1 = s.recovered q ∧ (s.recovered q).arb.requests = [] := by
  have arb : s.arb = ⟨[], []⟩ := by rw [← quiet.requests, ← quiet.inService]
  unfold serviceRecover State.recovered
  dsimp only
  cases target : chooseTarget s none [] with
  | none =>
    refine ⟨?_, rfl⟩
    change raise _ s = raise _ { s with arb := ⟨[], []⟩ }
    rw [← arb]
    rfl
  | some r =>
    have cleared : clearUncovered r s = { s with
        arb := ⟨[], []⟩
        groups := s.groups.map fun g => if g.source = .rig r then { g with uncovered := false } else g } := by
      rw [← arb]
      simp [clearUncovered]
    have members : ((inDifficulty s.groups).filter fun g => !(g.source == .rig r)) =
        (s.groups.filter fun g => g.gdef.follow == .follow && (g.source == .fallback || g.uncovered)).filter
          fun g => g.source != .rig r := rfl
    have kept (g : Group) : (if g.source = .rig r then { g with uncovered := false } else g : Group).num = g.num := by
      split <;> rfl
    have quiet' : State.Quiet (clearUncovered r s) := by
      refine ⟨quiet.takes, quiet.requests, quiet.inService, ?_, quiet.next⟩
      rw [cleared]
      simpa [Function.comp_def, kept] using quiet.groups
    have kinds (g : Group) (hg : g ∈ s.groups) :
        (findGroup (clearUncovered r s).groups g.num).map (·.gdef.kind) = some g.gdef.kind := by
      have mem : (if g.source = .rig r then { g with uncovered := false } else g : Group) ∈
          (clearUncovered r s).groups := by
        rw [cleared]
        exact List.mem_map_of_mem hg
      have kind := findGroup_kind quiet'.groups mem
      rw [kept] at kind
      rw [kind]
      split <;> rfl
    dsimp only
    rw [← members]
    cases hm : (inDifficulty s.groups).filter fun g => !(g.source == .rig r) with
    | nil => exact ⟨cleared, rfl⟩
    | cons m ms =>
      have mem (g : Group) (hg : g ∈ m :: ms) : g ∈ s.groups ∧ g.source ≠ .rig r := by
        rw [← hm, List.mem_filter, mem_inDifficulty] at hg
        exact ⟨hg.1.1, by simpa using hg.2⟩
      refine ⟨?_, rfl⟩
      refine (openService_quiet quiet' (fun g hg => kinds g (mem g hg).1) fun g hg => (mem g hg).2).trans ?_
      rw [cleared]

theorem service_quiet {q : Request} {s : State} (quiet : s.Quiet) :
    (service q s).1 = (if q.cause = .recover then s.recovered q else s.served q) ∧
      (service q s).1.arb.requests = [] := by
  unfold service
  split
  · obtain ⟨e, none_⟩ := serviceRecover_quiet (q := q) quiet
    exact ⟨e, e ▸ none_⟩
  · obtain ⟨e, none_⟩ := serviceDetection_quiet (q := q) quiet
    exact ⟨e, e ▸ none_⟩

/-! ## Examinations (R111, R112) -/

theorem withdrawStale_none {s : State} (h : s.arb.requests = []) : withdrawStale s = s := by
  have none_ : s.arb.requests.filter (fun q => !stale s q) = s.arb.requests := by rw [h, List.filter_nil]
  exact congrArg (fun qs => { s with arb := { s.arb with requests := qs } }) none_

theorem serviceLoop_none {s : State} (h : s.arb.requests = []) (n : Nat) : serviceLoop (n + 1) s = s := by
  have nothing : chooseRequest s = none := by rw [chooseRequest, h]; rfl
  unfold serviceLoop
  dsimp only
  rw [withdrawStale_none h, nothing]

theorem examine_none {s : State} (h : s.arb.requests = []) : examine s = s := by
  unfold examine
  rw [h]
  split
  · exact serviceLoop_none h 0
  · exact withdrawStale_none h

section

variable {q : Request} {s : State} (one : s.arb.requests = [q])

include one

theorem withdrawStale_stale (h : stale s q = true) : withdrawStale s = { s with arb := { s.arb with requests := [] } } := by
  have none_ : s.arb.requests.filter (fun q => !stale s q) = [] := by simp [one, h]
  exact congrArg (fun qs => { s with arb := { s.arb with requests := qs } }) none_

theorem withdrawStale_fresh (h : stale s q = false) : withdrawStale s = s := by
  have all : s.arb.requests.filter (fun q => !stale s q) = s.arb.requests := by simp [one, h]
  exact congrArg (fun qs => { s with arb := { s.arb with requests := qs } }) all

theorem examine_stale (h : stale s q = true) : examine s = { s with arb := { s.arb with requests := [] } } := by
  have withdrawn := withdrawStale_stale one h
  unfold examine
  split
  · rw [one]
    unfold serviceLoop
    dsimp only
    rw [withdrawn]
    have nothing : chooseRequest { s with arb := { s.arb with requests := [] } } = none := rfl
    rw [nothing]
  · exact withdrawn

theorem examine_not_rolling (h : stale s q = false) (st : s.tr.st ≠ .rolling) : examine s = s :=
  (if_neg st).trans (withdrawStale_fresh one h)

/-- A level in service at or above the request's keeps it waiting. -/
theorem examine_waits (h : stale s q = false) (busy : ∃ x ∈ s.arb.inService, x.1 ≤ q.level) : examine s = s := by
  obtain ⟨x, hx, le⟩ := busy
  have blocked : serviceable s q = false :=
    Bool.eq_false_iff.2 fun k => Nat.not_lt.2 le (of_decide_eq_true (List.all_eq_true.1 k x hx))
  have nothing : chooseRequest s = none := by simp [chooseRequest, one, blocked]
  unfold examine
  split
  · rw [one]
    unfold serviceLoop
    dsimp only
    rw [withdrawStale_fresh one h, nothing]
  · exact withdrawStale_fresh one h

/-- In a state quiet but for the request it is served at once. -/
theorem examine_serves (h : stale s q = false) (st : s.tr.st = .rolling)
    (quiet : State.Quiet { s with arb := { s.arb with requests := [] } }) :
    examine s = if q.cause = .recover then State.recovered q { s with arb := { s.arb with requests := [] } }
      else State.served q { s with arb := { s.arb with requests := [] } } := by
  have idle : s.arb.inService = [] := quiet.inService
  have chosen : chooseRequest s = some q := by simp [chooseRequest, one, serviceable, idle]
  have taken : (s.onRequests fun qs => qs.filter fun p => !(p == q)) = { s with arb := { s.arb with requests := [] } } := by
    have none_ : s.arb.requests.filter (fun p => !(p == q)) = [] := by simp [one]
    exact congrArg (fun qs => { s with arb := { s.arb with requests := qs } }) none_
  obtain ⟨done, none_⟩ := service_quiet (q := q) quiet
  unfold examine
  rw [if_pos st, one]
  change serviceLoop 2 s = _
  unfold serviceLoop
  dsimp only
  rw [withdrawStale_fresh one h, chosen]
  dsimp only
  rw [taken, serviceLoop_none none_ 0, ← done]
  split <;> rfl

end

theorem served_requests (q : Request) (a : Arbiter) (s : State) : State.served q { s with arb := a } = s.served q := by
  unfold State.served
  change (match chooseTarget s (some q.rig) [] with
    | some r => _
    | none => _) = _
  cases chooseTarget s (some q.rig) [] <;> rfl

theorem recovered_requests (q : Request) (a : Arbiter) (s : State) :
    State.recovered q { s with arb := a } = s.recovered q := rfl

/-- A request that arrives in a quiet state while ROLLING, and is not stale, is served at once (R108, R111). -/
theorem request_quiet {q : Request} {s : State} (quiet : s.Quiet) (st : s.tr.st = .rolling) (fresh : stale s q = false) :
    request q s = if q.cause = .recover then s.recovered q else s.served q := by
  have added : (if (s.arb.requests.any fun p => p.level == q.level && p.rig == q.rig) = true then s
      else s.onRequests fun qs => qs ++ [q]) = { s with arb := { s.arb with requests := [q] } } := by
    rw [quiet.requests]
    change ({ s with arb := { s.arb with requests := s.arb.requests ++ [q] } } : State) = _
    rw [quiet.requests, List.nil_append]
  unfold request
  rw [added, examine_serves (q := q) (s := { s with arb := { s.arb with requests := [q] } }) rfl fresh st
    ⟨quiet.takes, rfl, quiet.inService, quiet.groups, quiet.next⟩]
  exact if_congr Iff.rfl (recovered_requests q _ s) (served_requests q _ s)

end Sys2Proof.Machine

end

section
/-! SUPPORT. Requests of detections and renewals (R103 to R108), and the start countdown's expiry (R29, R105, R118). -/

namespace Sys2Proof.Machine

/-! ## The request decision (R103) -/

theorem carriesFollow_eq_true {gs : List Group} {r : Rig} : carriesFollow gs r = true ↔
    ∃ g ∈ gs, g.gdef.follow = .follow ∧ g.source = .rig r := by
  simp [carriesFollow, Group.follows]

theorem decide103_requested {s : State} {r : Rig} {d : Detection} : decide103 r d s = .requested ↔
    s.tr.st = .rolling ∧ (∃ g ∈ s.groups, g.gdef.follow = .follow ∧ g.source = .rig r) ∧
      d.level < s.settings.threshold := by
  rw [← carriesFollow_eq_true]
  unfold decide103
  by_cases st : s.tr.st = .rolling
  · rw [if_pos st]
    by_cases follow : carriesFollow s.groups r = true
    · rw [if_pos follow]
      by_cases level : d.level < s.settings.threshold
      · rw [if_pos level]
        exact iff_of_true rfl ⟨st, follow, level⟩
      · rw [if_neg level]
        exact iff_of_false nofun fun k => level k.2.2
    · rw [if_neg follow]
      exact iff_of_false nofun fun k => follow k.2.1
  · rw [if_neg st]
    exact iff_of_false nofun fun k => st k.1

/-- The state of a rig's tracker after a detection. -/
def Detection.state : Detection → TrackerSt
  | .link => .offline
  | _ => .failed

theorem requestOf_eq (r : Rig) (s : State) (d : Detection) : s.requestOf r d = ⟨d.level, r, d.cause, s.block⟩ := by
  cases d <;> rfl

theorem requestOf_fresh {s : State} {r : Rig} {d : Detection} (requested : decide103 r d s = .requested)
    (st : (s.tracker r).st = d.state) : stale s (s.requestOf r d) = false := by
  obtain ⟨-, follow, -⟩ := decide103_requested.1 requested
  have carries := carriesFollow_eq_true.2 follow
  cases d <;> simp [stale, State.requestOf, carries, st, Detection.state]

theorem Quiet.raise {s : State} (h : s.Quiet) (b : NoticeBody) : State.Quiet (raise b s) :=
  ⟨h.takes, h.requests, h.inService, h.groups, h.next⟩

/-- The request that a detection makes in a quiet state is served at once. -/
theorem request_served {s : State} {r : Rig} {d : Detection} (quiet : s.Quiet)
    (requested : decide103 r d s = .requested) (st : (s.tracker r).st = d.state) :
    request ⟨d.level, r, d.cause, s.block⟩ s = s.served (s.requestOf r d) := by
  have cause : (s.requestOf r d).cause ≠ .recover := by cases d <;> exact nofun
  rw [← requestOf_eq, request_quiet quiet (decide103_requested.1 requested).1 (requestOf_fresh requested st), if_neg cause]

/-- A requested detection in a quiet state: FAULT, then its service (R103, R106). -/
theorem detect_served {s : State} {r : Rig} {d : Detection} (quiet : s.Quiet)
    (requested : decide103 r d s = .requested) (st : (s.tracker r).st = d.state) (n : Bool) :
    detect r d n s = State.served (s.requestOf r d)
      (raise (.fault r d n d.level .detection false .requested (s.tracker r).causes) s) := by
  have target : isTarget s.sw.takes r = false := by rw [quiet.takes]; rfl
  have taken := request_served (s := raise (.fault r d n d.level .detection false .requested (s.tracker r).causes) s)
    (Quiet.raise quiet _) requested st
  unfold detect
  rw [target]
  change (if decide103 r d s = .requested then request _ (raise (.fault r d n d.level .detection false
    (decide103 r d s) (s.tracker r).causes) s) else _) = _
  rw [if_pos requested, requested]
  exact taken

/-! ## Renewals (R105) -/

theorem renewOne_silent {s : State} {r : Rig} {d : Detection} (h : decide103 r d s ≠ .requested) : renewOne r d s = s :=
  if_neg h

theorem renewOne_served {s : State} {r : Rig} {d : Detection} (quiet : s.Quiet)
    (requested : decide103 r d s = .requested) (st : (s.tracker r).st = d.state) : renewOne r d s = s.renewed r d := by
  unfold renewOne
  rw [if_pos requested]
  have taken := request_served (s := raise (.fault r d false d.level .renewal false .requested (s.tracker r).causes) s)
    (Quiet.raise quiet _) requested st
  have level : d.level = (s.requestOf r d).level := by rw [requestOf_eq]
  unfold State.renewed
  dsimp only
  rw [← level]
  exact taken

/-- A tracker with nothing to renew. -/
theorem renew_sound {s : State} {r : Rig} (failed : (s.tracker r).st ≠ .failed)
    (offline : (s.tracker r).st = .offline → s.onAir r = false) : renew s r = s := by
  unfold renew
  split
  · exact absurd ‹_› failed
  · exact if_neg (by simp [offline ‹_›])
  · rfl

/-- Trackers, transport and sources of the groups after a service in a quiet state. -/
structure ServiceKept (s t : State) : Prop where
  trackers : t.trackers = s.trackers
  tr : t.tr = s.tr
  prefs : t.prefs = s.prefs
  settings : t.settings = s.settings
  requests : t.arb.requests = []
  sources : t.groups.map (·.source) = s.groups.map (·.source)

theorem served_kept (q : Request) (s : State) : ServiceKept s (s.served q) := by
  unfold State.served
  dsimp only
  split
  · exact ⟨rfl, rfl, rfl, rfl, rfl, rfl⟩
  · split
    · exact ⟨rfl, rfl, rfl, rfl, rfl, rfl⟩
    · refine ⟨rfl, rfl, rfl, rfl, rfl, ?_⟩
      change (s.groups.map _).map _ = _
      rw [List.map_map]
      refine List.map_congr_left fun g _ => ?_
      rw [Function.comp_apply]
      split <;> rfl

theorem renewed_kept (r : Rig) (d : Detection) (s : State) : ServiceKept s (s.renewed r d) := by
  obtain ⟨trackers, tr, prefs, settings, requests, sources⟩ := served_kept (s.requestOf r d)
    (raise (.fault r d false (s.requestOf r d).level .renewal false .requested (s.tracker r).causes) s)
  exact ⟨trackers, tr, prefs, settings, requests, sources⟩

/-- The renewal of a tracker with one standing failure (R105). -/
theorem renew_stands {s : State} {r : Rig} {d : Detection} (h : s.Stands r d) :
    (decide103 r d s ≠ .requested → renew s r = s) ∧
      (decide103 r d s = .requested → s.Quiet → renew s r = s.renewed r d) := by
  have silent {u : State} (same : u.trackers = s.trackers) {d' : Detection} (no : (s.tracker r).holds d' = false) :
      renewCause r u d' = u := by
    have none_ : (u.tracker r).holds d' = false := by rw [State.tracker, same]; exact no
    exact if_neg fun k => by simp [none_] at k
  have failed (st : (s.tracker r).st = .failed) :
      renew s r = renewCause r (renewCause r (renewCause r s .stall) .slip) .beat := by
    rw [renew, st]
    rfl
  have held (st : (s.tracker r).st = .failed) (holds : (s.tracker r).holds d = true) :
      renewCause r s d = renewOne r d s := if_pos ⟨st, holds⟩
  have kept := (renewed_kept r d s).trackers
  cases d with
  | link =>
    obtain ⟨st, on⟩ := h
    have one : renew s r = renewOne r .link s := by
      rw [renew, st]
      exact if_pos (carries_eq_true.2 on)
    rw [one]
    exact ⟨renewOne_silent, fun requested quiet => renewOne_served quiet requested st⟩
  | stall =>
    obtain ⟨st, causes⟩ := h
    have slip : (s.tracker r).holds .slip = false := by rw [Tracker.holds, causes]
    have beat : (s.tracker r).holds .beat = false := by rw [Tracker.holds, causes]
    rw [failed st, held st (by rw [Tracker.holds, causes])]
    refine ⟨fun no => ?_, fun requested quiet => ?_⟩
    · rw [renewOne_silent no, silent rfl slip, silent rfl beat]
    · rw [renewOne_served quiet requested st, silent kept slip, silent kept beat]
  | slip =>
    obtain ⟨st, causes⟩ := h
    have stall : (s.tracker r).holds .stall = false := by rw [Tracker.holds, causes]
    have beat : (s.tracker r).holds .beat = false := by rw [Tracker.holds, causes]
    rw [failed st, silent rfl stall, held st (by rw [Tracker.holds, causes])]
    refine ⟨fun no => ?_, fun requested quiet => ?_⟩
    · rw [renewOne_silent no, silent rfl beat]
    · rw [renewOne_served quiet requested st, silent kept beat]
  | beat =>
    obtain ⟨st, causes⟩ := h
    have stall : (s.tracker r).holds .stall = false := by rw [Tracker.holds, causes]
    have slip : (s.tracker r).holds .slip = false := by rw [Tracker.holds, causes]
    rw [failed st, silent rfl stall, silent rfl slip, held st (by rw [Tracker.holds, causes])]
    exact ⟨renewOne_silent, fun requested quiet => renewOne_served quiet requested st⟩

/-! ## The arrival in ROLLING (R111, R118) -/

theorem recoverOpen_eq_true {s : State} : recoverOpen s = true ↔
    s.settings.recover = true ∧ s.tr.st = .rolling ∧ (∀ q ∈ s.arb.requests, q.level ≠ 4) ∧
      (∀ x ∈ s.arb.inService, x.1 ≠ 4) ∧ inDifficulty s.groups ≠ [] := by
  unfold recoverOpen
  simp only [Bool.and_eq_true, beq_iff_eq, Bool.not_eq_true', List.any_eq_false, List.isEmpty_eq_false_iff, and_assoc,
    ne_eq]

theorem readyArrival_closed {s : State} (h : recoverOpen s ≠ true) (r : Rig) : readyArrival r s = s := if_neg h

theorem recover_fresh {s : State} {q : Request} (cause : q.cause = .recover) (difficulty : inDifficulty s.groups ≠ []) :
    stale s q = false := by
  unfold stale
  rw [cause]
  simpa using difficulty

theorem readyArrival_recovered {s : State} (quiet : s.Quiet) (h : recoverOpen s = true) (r : Rig) :
    readyArrival r s = s.recovered ⟨4, r, .recover, s.block⟩ := by
  obtain ⟨-, st, -, -, difficulty⟩ := recoverOpen_eq_true.1 h
  exact (if_pos h).trans (request_quiet quiet st (recover_fresh rfl difficulty))

theorem rollArrival_closed {s : State} (requests : s.arb.requests = [])
    (h : chooseTarget s none [] ≠ none → recoverOpen s ≠ true) : rollArrival s = s := by
  unfold rollArrival
  split
  · rename_i r target
    rw [readyArrival_closed (h (by rw [target]; nofun)), examine_none requests]
  · exact examine_none requests

theorem rollArrival_recovered {s : State} (quiet : s.Quiet) (h : recoverOpen s = true) {r : Rig}
    (target : chooseTarget s none [] = some r) : rollArrival s = s.recovered ⟨4, r, .recover, s.block⟩ := by
  unfold rollArrival
  rw [target]
  dsimp only
  rw [readyArrival_recovered quiet h]
  exact examine_none (serviceRecover_quiet quiet).2

theorem chooseTarget_congr {s t : State} (trackers : t.trackers = s.trackers) (prefs : t.prefs = s.prefs)
    (f : Option Rig) (dropped : List Rig) : chooseTarget t f dropped = chooseTarget s f dropped := by
  unfold chooseTarget State.tracker
  rw [trackers, prefs]

/-- A faulted rig that is not READY is no candidate anyway. -/
theorem chooseTarget_faulted {s : State} {r : Rig} (h : (s.tracker r).st ≠ .ready) (dropped : List Rig) :
    chooseTarget s (some r) dropped = chooseTarget s none dropped := by
  unfold chooseTarget
  congr 1
  funext x
  by_cases e : x = r
  · subst e
    simp [h]
  · have other : (r == x) = false := beq_eq_false_iff_ne.2 (Ne.symm e)
    simp [other]

/-- After a detection's service no group is in difficulty that a RECOVER request could help. -/
theorem served_closed {q : Request} {s : State} (none_ : inDifficulty s.groups = [])
    (st : (s.tracker q.rig).st ≠ .ready) (target : chooseTarget (s.served q) none [] ≠ none) :
    recoverOpen (s.served q) ≠ true := by
  have kept := served_kept q s
  rw [chooseTarget_congr kept.trackers kept.prefs, ← chooseTarget_faulted st] at target
  obtain ⟨r, chosen⟩ := Option.ne_none_iff_exists'.1 target
  have groups : (s.served q).groups = s.groups := by
    unfold State.served
    rw [chosen]
    rfl
  intro k
  obtain ⟨-, -, -, -, difficulty⟩ := recoverOpen_eq_true.1 k
  rw [groups] at difficulty
  exact difficulty none_

/-! ## The renewals of every tracker -/

/-- A tracker has no standing failure to renew. -/
def State.Sound (s : State) (r : Rig) : Prop :=
  (s.tracker r).st ≠ .failed ∧ ¬((s.tracker r).st = .offline ∧ ∃ g ∈ s.groups, g.source = .rig r)

theorem renew_of_sound {s : State} {r : Rig} (h : s.Sound r) : renew s r = s :=
  renew_sound h.1 fun st => Bool.eq_false_iff.2 fun k => h.2 ⟨st, carries_eq_true.1 k⟩

theorem Sound.kept {s t : State} {r : Rig} (h : s.Sound r) (trackers : t.trackers = s.trackers)
    (sources : t.groups.map (·.source) = s.groups.map (·.source)) : t.Sound r := by
  have carried (u : State) : (∃ g ∈ u.groups, g.source = .rig r) ↔ Source.rig r ∈ u.groups.map (·.source) := by simp
  unfold State.Sound State.tracker at *
  rw [carried] at h ⊢
  rw [trackers, sources]
  exact h

theorem renewals_sound {s : State} (h : ∀ r, s.Sound r) : Rig.all.foldl renew s = s := by
  simp only [Rig.all, List.foldl, renew_of_sound (h _)]

/-- The renewals when one tracker alone has a standing failure. -/
theorem renewals_one {s t : State} {r : Rig} (others : ∀ x, x ≠ r → s.Sound x) (done : renew s r = t)
    (after : ∀ x, x ≠ r → t.Sound x) : Rig.all.foldl renew s = t := by
  have before (x : Rig) (h : x ≠ r) := renew_of_sound (others x h)
  have later (x : Rig) (h : x ≠ r) := renew_of_sound (after x h)
  cases r
  · simp only [Rig.all, List.foldl, done, later .B nofun, later .C nofun]
  · simp only [Rig.all, List.foldl, before .A nofun, done, later .C nofun]
  · simp only [Rig.all, List.foldl, before .A nofun, before .B nofun, done]

/-! ## The start countdown's expiry (R29) -/

/-- ROLLING begun, with its notice. -/
def State.rolled (s : State) : State :=
  raise (.transport .roll .rolling s.tr.house s.tr.cause) { s with tr := { s.tr with st := .rolling, heard := false } }

theorem startCountdown_due {s : State} (st : s.tr.st = .starting) (countdown : s.tr.countdown = 0) :
    startCountdown s = rollArrival (Rig.all.foldl renew s.rolled) :=
  if_pos (by simp [startDue, st, countdown])

theorem Stands.st {s : State} {r : Rig} {d : Detection} (h : s.Stands r d) : (s.tracker r).st ≠ .ready := by
  cases d <;> rw [h.1] <;> nofun

/-- Settles O38. -/
theorem clockExpiries : Obligations.ClockExpiries := by
  refine ⟨fun s on => ⟨fun st countdown => ?_, fun st countdown quiet => ?_, fun notDue => ?_⟩,
    fun s on => ⟨fun due high => ?_, fun due low => ?_, fun notDue => ?_⟩⟩
  · have due := startCountdown_due st countdown
    have work : ArbiterWork s.rolled (rollArrival (Rig.all.foldl renew s.rolled)) :=
      (ArbiterWork.foldl (fun s r => .renew s r) Rig.all s.rolled).trans (.rollArrival _)
    refine ⟨⟨_, next_event on due, work.tr, work.ports, work.setList, work.settings⟩,
      fun failed offline requests difficulty => next_event on (due.trans ?_)⟩
    have sound (r : Rig) : s.rolled.Sound r :=
      ⟨failed r, fun ⟨off, air⟩ => by
        have carried : s.onAir r = true := carries_eq_true.2 air
        rw [offline r off] at carried
        cases carried⟩
    rw [renewals_sound sound]
    refine rollArrival_closed requests fun _ k => ?_
    obtain ⟨-, -, -, -, some_⟩ := recoverOpen_eq_true.1 k
    exact some_ difficulty
  · have due := startCountdown_due st countdown
    have quiet' : s.rolled.Quiet := ⟨quiet.takes, quiet.requests, quiet.inService, quiet.groups, quiet.next⟩
    refine ⟨fun r d stands others difficulty => ⟨fun no => next_event on (due.trans ?_),
      fun requested => next_event on (due.trans ?_)⟩, fun sound difficulty =>
        ⟨fun shut => next_event on (due.trans ?_), fun r recover target => next_event on (due.trans ?_)⟩⟩
    · rw [renewals_one (s := s.rolled) (r := r) others ((renew_stands (s := s.rolled) stands).1 no) others]
      refine rollArrival_closed quiet.requests fun _ k => ?_
      obtain ⟨-, -, -, -, some_⟩ := recoverOpen_eq_true.1 k
      exact some_ difficulty
    · have kept := renewed_kept r d s.rolled
      rw [renewals_one (s := s.rolled) (r := r) others ((renew_stands (s := s.rolled) stands).2 requested quiet')
        fun x ne => Sound.kept (others x ne) kept.trackers kept.sources]
      refine rollArrival_closed kept.requests (served_closed difficulty ?_)
      have rig : (s.rolled.requestOf r d).rig = r := by rw [requestOf_eq]
      rw [rig]
      exact Stands.st stands
    · rw [renewals_sound (s := s.rolled) sound]
      refine rollArrival_closed quiet.requests fun target k => ?_
      obtain ⟨recover, -⟩ := recoverOpen_eq_true.1 k
      obtain shut | shut := shut
      · exact Bool.false_ne_true (shut.symm.trans recover)
      · exact target shut
    · rw [renewals_sound (s := s.rolled) sound]
      refine rollArrival_recovered quiet' (recoverOpen_eq_true.2 ⟨recover, rfl, ?_, ?_, difficulty⟩) target
      · rw [quiet'.requests]
        nofun
      · rw [quiet'.inService]
        nofun
  · exact next_event on (if_neg fun k => notDue (by simpa [startDue] using k))
  · refine next_event on ((if_pos (decide_eq_true due)).trans ?_)
    change (if s.tr.cueLevel = .low then _ else { s with tr := { s.tr with
      cueLevel := otherLevel s.tr.cueLevel, cueCount := 0 } }) = _
    rw [if_neg (by rw [high]; decide), high]
    rfl
  · refine next_event on ((if_pos (decide_eq_true due)).trans ?_)
    change (if s.tr.cueLevel = .low then press .cueLine { s with tr := { s.tr with
      cueLevel := otherLevel s.tr.cueLevel, cueCount := 0 } } else _) = _
    rw [if_pos low, low]
    rfl
  · exact next_event on (if_neg fun k => notDue (of_decide_eq_true k))

end Sys2Proof.Machine

end

section
/-! SUPPORT. The expiries of verify countdown and beat interval (R82, R97, R100, R102). -/

namespace Sys2Proof.Machine

/-- A tracker's event that makes a detection: the state with its RIG_STATE and FAULT, before any request. -/
def State.detected (r : Rig) (f : Tracker) (notify notFound : Bool) (d : Detection) (detail : Bool) (s : State) : State :=
  { s.setTracker r f with
    desk := s.desk.offers
      ((if notify = true then [.rigState r (s.port r).link f.st f.cued f.tap f.causes notFound] else []) ++
        [.fault r d detail d.level .detection false (decide103 r d s) f.causes]) s.block }

/-- A detection with no take open: advisory it does nothing more, requested in a quiet state it is served (R103, R106). -/
theorem applyStep_detects {s : State} {r : Rig} {f : Tracker} {d : Detection} (takes : s.sw.takes = [])
    (notify notFound detail : Bool) :
    (decide103 r d s ≠ .requested → applyStep r ⟨f, notify, notFound, some d, false⟩ detail s =
        s.detected r f notify notFound d detail) ∧
      (decide103 r d s = .requested → s.Quiet → f.st = d.state →
        applyStep r ⟨f, notify, notFound, some d, false⟩ detail s =
          State.served (s.requestOf r d) (s.detected r f notify notFound d detail)) := by
  obtain ⟨v, hv⟩ : ∃ v, v = (if notify = true then raiseRigState r notFound (s.setTracker r f) else s.setTracker r f) :=
    ⟨_, rfl⟩
  have step : applyStep r ⟨f, notify, notFound, some d, false⟩ detail s = detect r d detail v := by rw [hv]; rfl
  have shown : v = { s.setTracker r f with
      desk := s.desk.offers (if notify = true then
        [.rigState r (s.port r).link f.st f.cued f.tap f.causes notFound] else []) s.block } := by
    rw [hv]
    split
    · rw [raiseRigState, State.setTracker_tracker_self]
      rfl
    · rfl
  have tracker : v.tracker r = f := by
    rw [shown]
    exact State.setTracker_tracker_self ..
  have decision : decide103 r d v = decide103 r d s := by
    rw [shown]
    exact decide103_congr rfl rfl rfl r d
  have fault : raise (.fault r d detail d.level .detection false (decide103 r d s) f.causes) v =
      s.detected r f notify notFound d detail := by
    unfold State.detected
    rw [shown, Desk.offers_append]
    rfl
  refine ⟨fun advisory => ?_, fun requested quiet st => ?_⟩
  · rw [step, detect_advisory (by rw [shown]; exact takes) (by rw [decision]; exact advisory), tracker, decision, fault]
  · have quiet' : v.Quiet := by
      rw [shown]
      exact ⟨quiet.takes, quiet.requests, quiet.inService, quiet.groups, quiet.next⟩
    have request : v.requestOf r d = s.requestOf r d := by
      rw [shown]
      cases d <;> rfl
    rw [step, detect_served quiet' (by rw [decision]; exact requested) (by rw [tracker]; exact st), request, tracker]
    rw [requested] at fault
    rw [fault]

/-- The record of a tracker after a detection, by whether it was FAILED already. -/
theorem Tracker.fail_eq (t : Tracker) (d : Detection) : t.fail d =
    if t.st = .failed then { t with causes := t.causes.add d }
    else { t with
      st := .failed, cued := false, matchCount := 0, verify := 0, notFound := 0, slipRun := 0
      causes := t.causes.add d } := by
  unfold Tracker.fail
  split <;> rfl

theorem Tracker.fail_kept (t : Tracker) (d : Detection) :
    (t.fail d).balance = t.balance ∧ (t.fail d).timer = t.timer ∧ (t.fail d).tap = t.tap := by
  rw [Tracker.fail_eq]
  split <;> exact ⟨rfl, rfl, rfl⟩

theorem Tracker.fail_causes (t : Tracker) (d : Detection) : (t.fail d).causes = t.causes.add d := by
  rw [Tracker.fail_eq]
  split <;> rfl

theorem verifyExpiryStep_onAir {t : Tracker} (h : t.st = .verifying ∨ t.st = .failed) : verifyExpiryStep true t =
    ⟨Tracker.fail .slip { t with verifyDue := false }, !(t.st == .failed && t.causes.slip), true, some .slip, false⟩ := by
  rcases h with st | st <;> rw [verifyExpiryStep, st] <;> rfl

theorem beatExpiryStep_edge {t : Tracker} (h : t.balance = -8) : beatExpiryStep t =
    let v : Tracker := { t with timer := some 0, beatDue := false, balance := -9 }
    ⟨v.fail .beat, decide (v.fail .beat ≠ v), false, some .beat, false⟩ := by
  rw [beatExpiryStep, if_neg (by omega)]
  dsimp only
  rw [if_pos h, h]
  rfl

/-- A BEAT detection shows on the tracker unless it was FAILED with BEAT held. -/
theorem fail_beat_shows (v : Tracker) : decide (v.fail .beat ≠ v) = !(v.st == .failed && v.causes.beat) := by
  rw [Tracker.fail_eq]
  by_cases st : v.st = .failed
  · rw [if_pos st]
    cases beat : v.causes.beat with
    | true =>
      have same : ({ v with causes := v.causes.add .beat } : Tracker) = v := by
        rw [Causes.add, ← beat]
      rw [same, st]
      exact decide_eq_false fun ne => ne rfl
    | false =>
      have differs : ({ v with causes := v.causes.add .beat } : Tracker) ≠ v := fun e => by
        have held : (v.causes.add .beat).beat = v.causes.beat := congrArg (·.causes.beat) e
        rw [beat] at held
        cases held
      simp [differs]
  · rw [if_neg st]
    have differs : ({ v with
        st := .failed, cued := false, matchCount := 0, verify := 0, notFound := 0, slipRun := 0
        causes := v.causes.add .beat } : Tracker) ≠ v := fun e => st (congrArg (·.st) e).symm
    simp [differs, st]

theorem shown_unless (p : Prop) [Decidable p] (c : Bool) (b : NoticeBody) :
    (if (!(decide p && c)) = true then [b] else []) = if p ∧ c = true then [] else [b] := by
  by_cases hp : p <;> cases c <;> simp [hp]

/-- The state of a detection that adds a cause, in the terms of its tracker before: RIG_STATE unless nothing shows. -/
theorem detected_fail (s : State) (r : Rig) (u : Tracker) (notFound : Bool) (d : Detection) (detail held : Bool) :
    s.detected r (u.fail d) (!(u.st == .failed && held)) notFound d detail =
      { s.setTracker r (u.fail d) with
        desk := s.desk.offers
          ((if u.st = .failed ∧ held = true then []
            else [.rigState r (s.port r).link .failed (u.fail d).cued u.tap (u.causes.add d) notFound]) ++
            [.fault r d detail d.level .detection false (decide103 r d s) (u.causes.add d)]) s.block } := by
  unfold State.detected
  rw [Tracker.fail_st, Tracker.fail_tap, Tracker.fail_causes]
  rw [← shown_unless]
  rfl

/-- The RIG_STATEs of an event that changes one tracker alone. -/
theorem rigStates_one {s : State} {before after : Rig → Tracker} {r : Rig} (h : ∀ x, x ≠ r → before x = after x) :
    s.rigStates before after =
      if (before r).st ≠ (after r).st ∨ (before r).cued ≠ (after r).cued ∨ (before r).causes ≠ (after r).causes then
        [.rigState r (s.port r).link (after r).st (after r).cued (after r).tap (after r).causes false] else [] := by
  have silent (x : Rig) (ne : x ≠ r) : decide ((before x).st ≠ (after x).st ∨ (before x).cued ≠ (after x).cued ∨
      (before x).causes ≠ (after x).causes) = false := by simp [h x ne]
  unfold State.rigStates
  cases r
  · simp only [List.filter, silent .B nofun, silent .C nofun]
    split <;> simp_all
  · simp only [List.filter, silent .A nofun, silent .C nofun]
    split <;> simp_all
  · simp only [List.filter, silent .A nofun, silent .B nofun]
    split <;> simp_all

/-- The RIG_STATE of a detection, as a change of the tracker's record. -/
theorem rigStates_fail {s : State} {before after : Rig → Tracker} {r : Rig} (h : ∀ x, x ≠ r → before x = after x)
    (failed : after r = (before r).fail .beat) : s.rigStates before after =
      if (before r).st = .failed ∧ (before r).causes.beat = true then []
      else [.rigState r (s.port r).link .failed ((before r).fail .beat).cued (before r).tap
        ((before r).causes.add .beat) false] := by
  rw [rigStates_one h, failed, Tracker.fail_st, Tracker.fail_tap, Tracker.fail_causes]
  generalize before r = v
  by_cases silent : v.st = .failed ∧ v.causes.beat = true
  · have causes : v.causes.add .beat = v.causes := by rw [Causes.add, ← silent.2]
    have cued : (v.fail .beat).cued = v.cued := by rw [Tracker.fail_eq, if_pos silent.1]
    rw [if_pos silent, if_neg (by simp [silent.1, causes, cued])]
  · rw [if_neg silent, if_pos]
    by_cases st : v.st = .failed
    · refine .inr (.inr fun e => silent ⟨st, ?_⟩)
      rw [e]
      rfl
    · exact .inl st

/-- Settles O48. -/
theorem trackerExpiries : Obligations.TrackerExpiries := by
  refine ⟨fun r s on => ⟨fun notDue => ?_, fun due st off => ?_, fun due none_ => ?_, fun due st air takes => ?_⟩,
    fun r s on => ⟨fun due low => ?_, fun due high => ?_, fun due edge takes advisory => ?_, fun due edge requested quiet => ?_,
      fun notDue => ?_⟩⟩
  · exact next_event on (if_neg notDue)
  · refine next_event on ((if_pos due).trans ?_)
    rw [verifyExpiryStep, st, off]
    rfl
  · refine next_event on ((if_pos due).trans ?_)
    obtain ⟨st, off⟩ | ⟨verifying, failed⟩ := none_
    · rw [verifyExpiryStep, st, off]
      rfl
    · unfold verifyExpiryStep
      split
      · exact absurd ‹_› verifying
      · exact absurd ‹_› failed
      · rfl
  · have work : verifyExpiry r s = applyStep r (verifyExpiryStep (s.onAir r) (s.tracker r)) (s.onAir r) s := if_pos due
    rw [air, verifyExpiryStep_onAir st] at work
    have shown := detected_fail s r { s.tracker r with verifyDue := false } true .slip true (s.tracker r).causes.slip
    obtain ⟨silent, serves⟩ := applyStep_detects (d := .slip) takes (r := r)
      (f := Tracker.fail .slip { s.tracker r with verifyDue := false })
      (!((s.tracker r).st == .failed && (s.tracker r).causes.slip)) true true
    rw [Tracker.fail_eq] at shown
    refine ⟨fun advisory => next_event on (work.trans ((silent advisory).trans ?_)),
      fun requested quiet => next_event on (work.trans ((serves requested quiet (Tracker.fail_st ..)).trans
        (congrArg _ ?_)))⟩ <;> rw [Tracker.fail_eq] <;> exact shown
  · refine next_event on ((if_pos due).trans ?_)
    rw [beatExpiryStep, if_pos low]
    rfl
  · refine next_event on ((if_pos due).trans ?_)
    rw [beatExpiryStep, if_neg (by omega)]
    dsimp only
    rw [if_neg (by omega)]
    rfl
  · have work : beatExpiry r s = applyStep r (beatExpiryStep (s.tracker r)) false s := if_pos due
    rw [beatExpiryStep_edge edge] at work
    dsimp only at work
    rw [fail_beat_shows] at work
    obtain ⟨silent, -⟩ := applyStep_detects (d := .beat) takes (r := r)
      (f := Tracker.fail .beat { s.tracker r with timer := some 0, beatDue := false, balance := -9 })
      (!((s.tracker r).st == .failed && (s.tracker r).causes.beat)) false false
    have row := next_event on (work.trans ((silent advisory).trans (detected_fail ..)))
    have self := State.setTracker_tracker_self s r
      (Tracker.fail .beat { s.tracker r with timer := some 0, beatDue := false, balance := -9 })
    refine ⟨_, row, ?_, ?_, ?_, ?_, ?_, ?_, rfl, fun x ne => State.setTracker_tracker_other _ _ ne⟩
    · exact (congrArg (·.balance) self).trans (Tracker.fail_kept ..).1
    · exact (congrArg (·.st) self).trans (Tracker.fail_st ..)
    · exact (congrArg (·.causes) self).trans (Tracker.fail_causes ..)
    · exact (congrArg (·.timer) self).trans (Tracker.fail_kept ..).2.1
    · exact (congrArg (·.tap) self).trans (Tracker.fail_kept ..).2.2
    · have told := rigStates_fail (s := s) (r := r)
        (before := fun x => if x = r then { s.tracker r with timer := some 0, beatDue := false, balance := -9 }
          else s.tracker x)
        (after := (s.setTracker r (Tracker.fail .beat
          { s.tracker r with timer := some 0, beatDue := false, balance := -9 })).tracker)
        (fun x ne => (if_neg ne).trans (State.setTracker_tracker_other _ _ ne).symm)
        (by rw [if_pos rfl]; exact State.setTracker_tracker_self ..)
      rw [if_pos rfl] at told
      refine congrArg Desk.kick ?_
      change s.desk.offers _ s.block = s.desk.offers (s.rigStates _ (s.setTracker r _).tracker ++ _) s.block
      rw [told]
      rfl
  · have work : beatExpiry r s = applyStep r (beatExpiryStep (s.tracker r)) false s := if_pos due
    rw [beatExpiryStep_edge edge] at work
    dsimp only at work
    rw [fail_beat_shows] at work
    have shown := detected_fail s r { s.tracker r with timer := some 0, beatDue := false, balance := -9 } false .beat false
      (s.tracker r).causes.beat
    obtain ⟨-, serves⟩ := applyStep_detects (d := .beat) quiet.takes (r := r)
      (f := Tracker.fail .beat { s.tracker r with timer := some 0, beatDue := false, balance := -9 })
      (!((s.tracker r).st == .failed && (s.tracker r).causes.beat)) false false
    rw [Tracker.fail_eq, requested] at shown
    refine next_event on (work.trans ((serves requested quiet (Tracker.fail_st ..)).trans (congrArg _ ?_)))
    rw [Tracker.fail_eq]
    exact shown
  · exact next_event on (if_neg notDue)

end Sys2Proof.Machine

end

section
/-! SUPPORT. The expiries of the rig links (R50, R52, R67, R94). -/

namespace Sys2Proof.Machine

/-! ## Trackers that hold no SLIP stay -/

/-- Arbiter and take work leaves the record of every tracker that holds no SLIP. -/
def Steady (s t : State) : Prop := ∀ r, (s.tracker r).causes.slip = false → t.tracker r = s.tracker r

namespace Steady

variable {s t u : State}

protected theorem refl (s : State) : Steady s s := fun _ _ => rfl

protected theorem trans (h : Steady s t) (k : Steady t u) : Steady s u := fun r no => by
  have same := h r no
  exact (k r (by rw [same]; exact no)).trans same

theorem raise (b : NoticeBody) (s : State) : Steady s (raise b s) := fun _ _ => rfl
theorem sets (s : State) (arb : Arbiter) (sw : Switch) : Steady s { s with arb := arb, sw := sw } := fun _ _ => rfl
theorem write (s : State) (gs : List Group) : Steady s { s with groups := gs } := fun _ _ => rfl
theorem onRequests (f : List Request → List Request) (s : State) : Steady s (s.onRequests f) := sets s _ _
theorem updateTake (n : Nat) (f : Take → Take) (s : State) : Steady s (updateTake n f s) := sets s _ _
theorem removeTake (n : Nat) (s : State) : Steady s (removeTake n s) := sets s _ _

theorem foldl {α : Type} {f : State → α → State} (h : ∀ s x, Steady s (f s x)) : ∀ (l : List α) (s : State),
    Steady s (l.foldl f s)
  | [], s => .refl s
  | x :: l, s => (h s x).trans (foldl h l (f s x))

theorem ite {c : Prop} [Decidable c] (h : Steady s t) (k : Steady s u) : Steady s (if c then t else u) := by
  split
  · exact h
  · exact k

theorem iteSelf {c : Prop} [Decidable c] (h : Steady s t) : Steady s (if c then t else s) := .ite h (.refl s)

theorem slipClear (r : Rig) (s : State) : Steady s (slipClear r s) := by
  unfold Machine.slipClear
  split
  · rename_i held
    intro x no
    have ne : x ≠ r := fun e => by
      rw [e, held] at no
      cases no
    exact State.setTracker_tracker_other _ _ ne
  · exact .refl s

theorem lossReport (before : List Group) (s : State) (r : Rig) : Steady s (lossReport before s r) := by
  have h : Steady s (if carries before r && !carries s.groups r then Machine.slipClear r s else s) :=
    iteSelf (slipClear r s)
  exact ite (h.trans (sets _ _ _)) h

theorem lossReports (before : List Group) (s : State) : Steady s (lossReports before s) := foldl (lossReport before) _ s

theorem writeGroups (f : List Group → List Group) (s : State) : Steady s (writeGroups f s) :=
  (write s (f s.groups)).trans (lossReports _ _)

theorem supersedeTake (gs : List Nat) (n : Nat) (s : State) (old : Take) : Steady s (supersedeTake gs n s old) := by
  unfold Machine.supersedeTake
  refine ite (.refl s) ?_
  have h (groups : List Group) (m : Nat) (f : Take → Take) : Steady s (Machine.updateTake m f { s with groups := groups }) :=
    (write s groups).trans (updateTake m f _)
  exact ite (h _ _ _) ((h _ _ _).trans (raise _ _))

theorem closeSuperseded (n : Nat) (s : State) (t : Take) : Steady s (closeSuperseded n s t) :=
  (((removeTake t.num s).trans (updateTake n _ _)).trans (sets _ _ _)).trans (raise _ _)

theorem openTake (o : OpenOrder) (s : State) : Steady s (openTake o s) :=
  (((((sets s _ _).trans (foldl (supersedeTake _ _) _ _)).trans (lossReports _ _)).trans (sets _ _ _)).trans
    (raise _ _)).trans (foldl (closeSuperseded _) _ _)

theorem openService (o : OpenOrder) (s : State) : Steady s (openService o s) := (openTake o s).trans (sets _ _ _)

theorem serviceDetection (q : Request) (s : State) : Steady s (serviceDetection q s).1 := by
  unfold Machine.serviceDetection
  dsimp only
  split
  · exact (openService _ s).trans (onRequests _ _)
  · split
    · exact ((raise _ s).trans (openService _ _)).trans (onRequests _ _)
    · exact ((write s _).trans (raise _ _)).trans (onRequests _ _)

theorem serviceRecover (q : Request) (s : State) : Steady s (serviceRecover q s).1 := by
  unfold Machine.serviceRecover
  dsimp only
  split
  · exact raise _ s
  · split
    · exact write s _
    · exact (write s _).trans (openService _ _)

theorem service (q : Request) (s : State) : Steady s (service q s).1 := by
  unfold Machine.service
  split
  · exact serviceRecover q s
  · exact serviceDetection q s

theorem serviceLoop : ∀ (n : Nat) (s : State), Steady s (serviceLoop n s)
  | 0, s => .refl s
  | n + 1, s => by
    unfold Machine.serviceLoop
    dsimp only
    split
    · exact onRequests _ s
    · rename_i q _
      have h := ((onRequests _ s).trans (onRequests (fun qs => qs.filter fun p => !(p == q)) (withdrawStale s))).trans
        (service q _)
      exact ite h (h.trans (serviceLoop n _))

theorem examine (s : State) : Steady s (examine s) := ite (serviceLoop _ s) (onRequests _ s)

theorem request (q : Request) (s : State) : Steady s (request q s) := by
  refine .trans ?_ (examine _)
  exact ite (.refl s) (onRequests _ s)

theorem renewOne (r : Rig) (d : Detection) (s : State) : Steady s (renewOne r d s) :=
  iteSelf ((raise _ s).trans (request _ _))

theorem renew (s : State) (r : Rig) : Steady s (renew s r) := by
  unfold Machine.renew
  split
  · exact foldl (fun s d => iteSelf (renewOne r d s)) _ s
  · exact iteSelf (renewOne r _ s)
  · exact .refl s

theorem closeReport (n : Nat) (s : State) : Steady s (closeReport n s) := (sets s _ _).trans (examine _)

theorem closeTake (notice : Take → State → NoticeBody) (t : Take) (s : State) : Steady s (closeTake notice t s) :=
  (((writeGroups _ s).trans (removeTake t.num _)).trans (raise _ _)).trans (closeReport t.num _)

theorem spoilTake (r : Rig) (s : State) (n : Nat) : Steady s (spoilTake r s n) := by
  unfold Machine.spoilTake
  split
  · exact iteSelf ((closeTake _ _ s).trans (foldl renew _ _))
  · exact .refl s

theorem targetFault (r : Rig) (s : State) : Steady s (targetFault r s) := foldl (spoilTake r) _ s

theorem detect (r : Rig) (d : Detection) (b : Bool) (s : State) : Steady s (detect r d b s) := by
  have h : Steady s (if isTarget s.sw.takes r then Machine.targetFault r s else s) := iteSelf (targetFault r s)
  exact ite ((h.trans (raise _ _)).trans (request _ _)) (h.trans (raise _ _))

end Steady

/-! ## The slot expiry (R52) -/

theorem expired_down {s : State} {r : Rig} (h : (s.port r).link = .down) : expired s r = none := by
  rw [expired, h]

theorem expired_up {s : State} {r : Rig} {e : HouseFrame} (up : (s.port r).link ≠ .down)
    (next : (s.port r).expected = some e) : expired s r = if 9 ≤ frameDiff s.now e then some e else none := by
  unfold expired
  rw [next]
  cases link : (s.port r).link with
  | down => exact absurd link up
  | acquiring => rfl
  | locked => rfl

theorem slotExpiry_none {s : State} {r : Rig} (h : expired s r = none) : slotExpiry r s = s := by
  rw [slotExpiry, h]

theorem slotExpiry_some {s : State} {r : Rig} {e : HouseFrame} (h : expired s r = some e) :
    slotExpiry r s = expireSlot r e s := by
  rw [slotExpiry, h]

theorem blockReport_offline {s : State} {r : Rig} (h : (s.tracker r).st = .excluded ∨ (s.tracker r).st = .offline)
    (stamp : HouseFrame) (v : Verdict) : blockReport r stamp v s = s := if_pos h

theorem blockReport_online {s : State} {r : Rig} (h : ¬((s.tracker r).st = .excluded ∨ (s.tracker r).st = .offline))
    (stamp : HouseFrame) (v : Verdict) :
    blockReport r stamp v s = applyStep r (reportStep s r stamp v (s.tracker r)) false s := if_neg h

/-- A bad block breaks the good run and counts up to 3. -/
theorem badStep_runs (t : Tracker) : (badStep t).t.badRun = min (t.badRun + 1) 3 ∧ (badStep t).t.goodRun = 0 := by
  unfold badStep
  dsimp only
  split
  · dsimp only
    rw [Tracker.fail_eq]
    split <;> exact ⟨rfl, rfl⟩
  · exact ⟨rfl, rfl⟩

/-- The record that the third bad block in a row leaves. -/
def Tracker.stalled (t : Tracker) : Tracker :=
  let u : Tracker := { t with badRun := 3, goodRun := 0, causes := { t.causes with stall := true } }
  if t.st = .failed then u
  else { u with st := .failed, cued := false, matchCount := 0, verify := 0, notFound := 0, slipRun := 0 }

theorem Tracker.stalled_shown (t : Tracker) : t.stalled.st = .failed ∧ t.stalled.tap = t.tap ∧
    t.stalled.causes = { t.causes with stall := true } := by
  unfold Tracker.stalled
  dsimp only
  split
  · exact ⟨‹_›, rfl, rfl⟩
  · exact ⟨rfl, rfl, rfl⟩

/-- The third bad block in a row, with STALL not held, is a STALL detection (R91, R92). -/
theorem badStep_stall {t : Tracker} (run : t.badRun = 2) (held : t.causes.stall = false) :
    badStep t = ⟨t.stalled, true, false, some .stall, false⟩ := by
  unfold badStep Tracker.stalled
  dsimp only
  rw [if_pos ⟨by rw [run]; rfl, held⟩, Tracker.fail_eq, run]
  cases st : t.st <;> simp [Tracker.breakMatches, st, Causes.add, Config.stallRun]

theorem blockReport_port (r x : Rig) (stamp : HouseFrame) (v : Verdict) (s : State) :
    (blockReport r stamp v s).port x = s.port x := by
  by_cases off : (s.tracker r).st = .excluded ∨ (s.tracker r).st = .offline
  · rw [blockReport_offline off]
  · rw [blockReport_online off]
    exact congrArg (·.get x) (ArbiterWork.applyStep r _ false s).ports

/-! ## The silence limit (R50, R67, R94) -/

theorem silent_down {s : State} {r : Rig} (h : (s.port r).link = .down) : silent s r = false := by
  rw [silent, h]

theorem silent_up {s : State} {r : Rig} {a : HouseFrame} (up : (s.port r).link ≠ .down)
    (last : (s.port r).lastArrival = some a) : silent s r = decide (128 ≤ frameDiff s.now a) := by
  unfold silent
  rw [last]
  cases link : (s.port r).link with
  | down => exact absurd link up
  | acquiring => rfl
  | locked => rfl

/-- What the loss of a link does before its detection. -/
def State.unlinked (f : Port → Port) (r : Rig) (s : State) : State :=
  ((s.setPort r (f (s.port r))).setRigCue r none).setTracker r (s.tracker r).linkDown

/-- A link loss is the loss itself, then arbiter and take work. -/
theorem dropLink_unlinked (f : Port → Port) (r : Rig) (s : State) : ArbiterWork (s.unlinked f r) (dropLink f r s) := by
  unfold dropLink
  dsimp only
  rw [← State.unlinked]
  exact .ite (fun _ => .ite (fun _ => .refl _) fun _ => .raise _ _)
    fun _ => (ArbiterWork.ite (fun _ => .refl _) fun _ => .raise _ _).trans (.detect _ _ _ _)

theorem unlinked_tracker (f : Port → Port) (r : Rig) (s : State) : (s.unlinked f r).tracker r = (s.tracker r).linkDown :=
  State.setTracker_tracker_self ..

/-- The rig's own record after a link loss is that of its link report. -/
theorem dropLink_tracker (f : Port → Port) (r : Rig) (s : State) : (dropLink f r s).tracker r = (s.tracker r).linkDown := by
  have told : ((if (s.port r).link = .down then s.unlinked f r
      else raiseRigState r false (s.unlinked f r)) : State).tracker r = (s.tracker r).linkDown := by
    split <;> exact unlinked_tracker f r s
  unfold dropLink
  dsimp only
  rw [← State.unlinked]
  split
  · exact told
  · rename_i online
    refine (Steady.detect r .link false _ r ?_).trans told
    rw [told, Tracker.linkDown_other fun e => online (.inl e)]
    rfl

theorem unlinked_port (f : Port → Port) (r : Rig) (s : State) : (s.unlinked f r).port r = f (s.port r) :=
  State.setPort_port_self s r _

theorem unlinked_port_other (f : Port → Port) {r x : Rig} (h : x ≠ r) (s : State) : (s.unlinked f r).port x = s.port x :=
  PerRig.get_set_other _ _ h

/-- A requested link loss in a quiet state: RIG_STATE, FAULT and the service of its request (R94, R103). -/
theorem dropLink_served {r : Rig} {s : State} {f : Port → Port} (quiet : s.Quiet)
    (requested : decide103 r .link s = .requested) (up : (s.port r).link ≠ .down) (down : (f (s.port r)).link = .down)
    (excluded : (s.tracker r).st ≠ .excluded) (online : (s.tracker r).st ≠ .offline) :
    dropLink f r s = State.served (s.requestOf r .link) { s.unlinked f r with
      desk := s.desk.offers [.rigState r .down .offline false (s.tracker r).tap ⟨false, false, false⟩ false,
        .fault r .link false 0 .detection false .requested ⟨false, false, false⟩] s.block } := by
  have tracker := (unlinked_tracker f r s).trans (Tracker.linkDown_other excluded)
  have link : ((s.unlinked f r).port r).link = .down := (congrArg Port.link (unlinked_port f r s)).trans down
  have told : raiseRigState r false (s.unlinked f r) =
      raise (.rigState r .down .offline false (s.tracker r).tap ⟨false, false, false⟩ false) (s.unlinked f r) := by
    rw [raiseRigState, tracker, link]
    rfl
  have causes : ((s.unlinked f r).tracker r).causes = ⟨false, false, false⟩ := by rw [tracker]; rfl
  have still : (s.unlinked f r).Quiet := ⟨quiet.takes, quiet.requests, quiet.inService, quiet.groups, quiet.next⟩
  unfold dropLink
  dsimp only
  rw [← State.unlinked, if_neg up, if_neg (not_or.2 ⟨excluded, online⟩), told]
  rw [detect_served (s := raise _ (s.unlinked f r)) (d := .link) (Quiet.raise still _) requested (congrArg (·.st) tracker)]
  exact congrArg (fun c => State.served (s.requestOf r .link) (raise (.fault r .link false 0 .detection false .requested c)
    (raise (.rigState r .down .offline false (s.tracker r).tap ⟨false, false, false⟩ false) (s.unlinked f r)))) causes

/-- Settles O43. -/
theorem linkExpiries : Obligations.LinkExpiries := by
  refine ⟨fun r s on => ⟨fun down => next_event on (slotExpiry_none (expired_down down)), fun e up next =>
      ⟨fun early => ?_, fun late => ⟨fun acquiring => ?_, fun locked => ?_, fun locked excluded online run held quiet => ?_⟩⟩⟩,
    fun r s on => ⟨fun down => ?_, fun a up last => ⟨fun early => ?_, fun late => ?_,
      fun late requested quiet excluded online => ?_⟩⟩⟩
  · exact next_event on (slotExpiry_none ((expired_up up next).trans (if_neg (by omega))))
  · refine next_event on ((slotExpiry_some ((expired_up up next).trans (if_pos late))).trans ?_)
    unfold expireSlot
    dsimp only
    rw [if_neg (by rw [acquiring]; exact nofun)]
    rfl
  · have work : slotExpiry r s = blockReport r e .missing (s.setPort r ((s.port r).expire e)) :=
      (slotExpiry_some ((expired_up up next).trans (if_pos late))).trans (if_pos locked)
    refine ⟨_, next_event on work, ?_, fun x ne => ?_, fun off => ?_, fun excluded online => ?_⟩
    · exact (blockReport_port ..).trans (State.setPort_port_self ..)
    · exact (blockReport_port ..).trans (State.setPort_port_other _ _ ne)
    · exact congrArg (·.tracker r) (blockReport_offline (s := s.setPort r ((s.port r).expire e)) off e .missing)
    · change ((blockReport r e .missing (s.setPort r _)).tracker r).badRun = _ ∧
        ((blockReport r e .missing (s.setPort r _)).tracker r).goodRun = _
      rw [blockReport_online (s := s.setPort r ((s.port r).expire e)) (not_or.2 ⟨excluded, online⟩),
        (ArbiterWork.applyStep r _ false (s.setPort r ((s.port r).expire e))).tracker r, State.setTracker_tracker_self]
      exact badStep_runs (s.tracker r)
  · have work : slotExpiry r s = blockReport r e .missing (s.setPort r ((s.port r).expire e)) :=
      (slotExpiry_some ((expired_up up next).trans (if_pos late))).trans (if_pos locked)
    have step : slotExpiry r s = applyStep r (badStep (s.tracker r)) false (s.setPort r ((s.port r).expire e)) :=
      work.trans (blockReport_online (s := s.setPort r ((s.port r).expire e)) (not_or.2 ⟨excluded, online⟩) ..)
    rw [badStep_stall run held] at step
    have link : ((s.setPort r ((s.port r).expire e)).port r).link = .locked :=
      (congrArg Port.link (State.setPort_port_self ..)).trans locked
    obtain ⟨silent, serves⟩ := applyStep_detects (s := s.setPort r ((s.port r).expire e)) (r := r) (d := .stall) quiet.takes
      (f := (s.tracker r).stalled) true false false
    obtain ⟨failed, tap, causes⟩ := (s.tracker r).stalled_shown
    have shown : (s.setPort r ((s.port r).expire e)).detected r (s.tracker r).stalled true false .stall false =
        { (s.setPort r ((s.port r).expire e)).setTracker r (s.tracker r).stalled with
          desk := s.desk.offers [.rigState r .locked .failed (s.tracker r).stalled.cued (s.tracker r).stalled.tap
              { (s.tracker r).causes with stall := true } false,
            .fault r .stall false 1 .detection false (decide103 r .stall s) { (s.tracker r).causes with stall := true }]
            s.block } := by
      unfold State.detected
      rw [link, failed, causes]
      rfl
    refine ⟨fun advisory => ?_, fun requested => ?_⟩
    · exact next_event on (step.trans ((silent advisory).trans shown))
    · exact next_event on (step.trans ((serves requested ⟨quiet.takes, quiet.requests, quiet.inService, quiet.groups,
        quiet.next⟩ failed).trans (congrArg _ shown)))
  · exact next_event on (if_neg (by rw [silent_down down]; exact nofun))
  · refine next_event on (if_neg ?_)
    rw [silent_up up last, decide_eq_true_eq]
    omega
  · have work : silenceLimit r s = dropLink Port.down r s := if_pos ((silent_up up last).trans (decide_eq_true late))
    have arbiter := dropLink_unlinked Port.down r s
    refine ⟨_, next_event on work, ?_, fun x ne => ?_, arbiter.tr, fun excluded => ?_, fun excluded => ?_, fun advisory takes => ?_⟩
    · exact (congrArg (·.get r) arbiter.ports).trans (unlinked_port Port.down r s)
    · exact (congrArg (·.get x) arbiter.ports).trans (unlinked_port_other Port.down ne s)
    · exact (dropLink_tracker Port.down r s).trans (Tracker.linkDown_excluded excluded)
    · exact (dropLink_tracker Port.down r s).trans (Tracker.linkDown_other excluded)
    · rw [dropLink_advisory takes (fun on => advisory.resolve_right on) rfl]
      exact ⟨rfl, rfl, fun x ne => PerRig.get_set_other _ _ ne, rfl, rfl⟩
  · have work : silenceLimit r s = dropLink Port.down r s := if_pos ((silent_up up last).trans (decide_eq_true late))
    refine next_event on (work.trans ((dropLink_served quiet requested up rfl excluded online).trans ?_))
    rw [State.unlinked, Tracker.linkDown, if_neg excluded]
    rfl

end Sys2Proof.Machine

end

section
/-! SUPPORT. The messages of a rig link, the delay line's reads, and the lineup search (R48, R53, R57, R58, R60, R69, R71,
R101). -/

namespace Sys2Proof.Machine

/-! ## Messages (R48, R53) -/

theorem be4_num4 {n : Nat} (h : n < 4294967296) : be4 (BitVec.ofNat 8 (n / 16777216)) (BitVec.ofNat 8 (n / 65536))
    (BitVec.ofNat 8 (n / 256)) (BitVec.ofNat 8 n) = n := by
  simp only [be4, be2, BitVec.toNat_ofNat]
  omega

/-- A message whose kind, length or channel count is not a Block's is none (R48). -/
theorem blockHead_none {bytes : List Byte} (h : bytes.head? ≠ some 0xB1 ∨ bytes.getD 9 0 = 0 ∨
    bytes.length ≠ 12 + 96 * (bytes.getD 9 0).toNat) : blockHead bytes = none := by
  unfold blockHead
  split
  · refine if_neg fun ⟨kind, channels, length⟩ => ?_
    rcases h with h | h | h
    · exact h (congrArg some kind)
    · exact channels h
    · refine h ?_
      simp only [List.length_cons, length, List.getD_cons_succ, List.getD_cons_zero]
      omega
  · rfl

/-- A message whose kind, length or check is not a Beat's is none (R48). -/
theorem beatCode_none {bytes : List Byte} (h : bytes.head? ≠ some 0xB2 ∨ bytes.length ≠ 5 ∨
    bytes.drop 3 ≠ crcBytes (crc16 (bytes.take 3))) : beatCode? bytes = none := by
  unfold beatCode?
  split
  · refine if_neg fun ⟨kind, check⟩ => ?_
    rcases h with h | h | h
    · exact h (congrArg some kind)
    · exact h rfl
    · exact h check.symm
  · rfl

theorem blockHead_of_beat {bytes : List Byte} {code : Nat} (h : beatCode? bytes = some code) : blockHead bytes = none := by
  refine blockHead_none (.inl fun block => ?_)
  rw [beatCode_none (.inl (by rw [block]; decide))] at h
  cases h

theorem rigMessage_none {bytes : List Byte} (block : blockHead bytes = none) (beat : beatCode? bytes = none) (r : Rig)
    (s : State) : rigMessage r bytes s = s := by
  rw [rigMessage, block, beat]

theorem rigMessage_beat {bytes : List Byte} {code : Nat} (h : beatCode? bytes = some code) (r : Rig) (s : State) :
    rigMessage r bytes s = takeBeat r code s := by
  rw [rigMessage, blockHead_of_beat h, h]

/-- Settles O40. -/
theorem rigMessages : Obligations.RigMessages := by
  refine ⟨⟨fun flags code offset pass n samples hcode hoffset hpass low high len => ?_, fun code bound => ?_⟩,
    fun r bytes s on h => ?_⟩
  · have channels : (BitVec.ofNat 8 n).toNat = n := by rw [BitVec.toNat_ofNat]; omega
    have passes : (BitVec.ofNat 8 pass).toNat = pass := by rw [BitVec.toNat_ofNat]; omega
    have some_ : BitVec.ofNat 8 n ≠ 0 := fun e => by
      rw [e] at channels
      simp at channels
      omega
    have checked : tagPasses (flags :: (num2 code ++ num4 offset ++ num1 pass ++ num1 n))
        ((crc16 (flags :: (num2 code ++ num4 offset ++ num1 pass ++ num1 n))).extractLsb' 8 8)
        ((crc16 (flags :: (num2 code ++ num4 offset ++ num1 pass ++ num1 n))).extractLsb' 0 8) code offset pass = true :=
      decide_eq_true ⟨rfl, hcode, hoffset, hpass⟩
    refine (if_pos ⟨rfl, some_, by rw [channels]; exact len⟩).trans ?_
    rw [be2_num2 (by omega), be4_num4 (by omega), channels, passes]
    exact congrArg (fun b => some (BlockHead.mk flags code offset pass n b, samples)) checked
  · refine (if_pos ⟨rfl, rfl⟩).trans ?_
    rw [be2_num2 bound]
  · have block : blockHead bytes = none := blockHead_none (by
      rcases h with h | ⟨kind, h⟩ | ⟨kind, h⟩ | ⟨kind, h⟩ | ⟨kind, h⟩
      · exact .inl fun e => (h _ e).1 rfl
      · exact .inr (.inr h)
      · exact .inr (.inl h)
      · exact .inl (by rw [kind]; decide)
      · exact .inl (by rw [kind]; decide))
    have beat : beatCode? bytes = none := beatCode_none (by
      rcases h with h | ⟨kind, h⟩ | ⟨kind, h⟩ | ⟨kind, h⟩ | ⟨kind, h⟩
      · exact .inl fun e => (h _ e).2 rfl
      · exact .inl (by rw [kind]; decide)
      · exact .inl (by rw [kind]; decide)
      · exact .inr (.inl h)
      · exact .inr (.inr h))
    exact ⟨next_event on (rigMessage_none block beat r s), next_event on (rigMessage_none block beat r s)⟩

/-! ## Beats (R60, R101, R102) -/

theorem takeBeat_kept {r : Rig} {s : State} (h : (s.port r).link ≠ .locked ∨ (s.tracker r).st = .excluded) (code : Nat) :
    takeBeat r code s = s.setPort r { s.port r with beatCode := some code } := by
  unfold takeBeat
  dsimp only
  rw [State.setPort_port_self]
  exact if_neg fun ⟨locked, excluded⟩ => h.elim (· locked) excluded

theorem takeBeat_credited {r : Rig} {s : State} (locked : (s.port r).link = .locked)
    (excluded : (s.tracker r).st ≠ .excluded) (code : Nat) : takeBeat r code s =
      applyStep r (beatCreditStep (s.tracker r)) false (s.setPort r { s.port r with beatCode := some code }) := by
  unfold takeBeat
  dsimp only
  rw [State.setPort_port_self]
  exact if_pos ⟨locked, excluded⟩

theorem beatCreditStep_full {t : Tracker} (h : 8 ≤ t.balance) : beatCreditStep t = ⟨t, false, false, none, false⟩ := if_pos h

theorem beatCreditStep_counts {t : Tracker} (h : t.balance < 8) (more : ¬(t.balance = -1 ∧ t.causes.beat = true)) :
    beatCreditStep t = ⟨{ t with balance := t.balance + 1 }, false, false, none, false⟩ :=
  (if_neg (by omega)).trans (if_neg fun ⟨zero, held⟩ => more ⟨by dsimp only at zero; omega, held⟩)

theorem beatCreditStep_clears {t : Tracker} (h : t.balance = -1) (held : t.causes.beat = true) :
    beatCreditStep t = ⟨clearCause .beat { t with balance := 0 }, true, false, none, false⟩ := by
  refine (if_neg (by omega)).trans ((if_pos ⟨by dsimp only; omega, held⟩).trans ?_)
  rw [h]
  rfl

/-- Settles O41. -/
theorem beatTaken : Obligations.BeatTaken := by
  refine fun r bytes code s on h => ⟨fun kept => ?_, fun locked excluded => ⟨fun full => ?_, fun low more => ?_,
    fun edge held => ?_⟩⟩ <;> refine next_event on ((rigMessage_beat h r s).trans ?_)
  · exact takeBeat_kept kept code
  · rw [takeBeat_credited locked excluded, beatCreditStep_full full]
    exact congrArg (fun x => { s.setPort r { s.port r with beatCode := some code } with trackers := x })
      (PerRig.set_get_self s.trackers r)
  · rw [takeBeat_credited locked excluded, beatCreditStep_counts low more]
    rfl
  · rw [takeBeat_credited locked excluded, beatCreditStep_clears edge held]
    have cleared : clearCause .beat { s.tracker r with balance := 0 } =
        { s.tracker r with
          balance := 0, causes := { (s.tracker r).causes with beat := false }
          st := if (s.tracker r).causes.stall = true ∨ (s.tracker r).causes.slip = true then (s.tracker r).st else .searching
          notFound := if (s.tracker r).causes.stall = true ∨ (s.tracker r).causes.slip = true then
            (s.tracker r).notFound else 0 } := by
      obtain ⟨none_, e⟩ | ⟨more, e⟩ := clearCause_cases .beat { s.tracker r with balance := 0 }
      · have last : ¬((s.tracker r).causes.stall = true ∨ (s.tracker r).causes.slip = true) := by
          simpa [Causes.isEmpty, Causes.remove] using none_
        rw [e, if_neg last, if_neg last]
        rfl
      · have others : (s.tracker r).causes.stall = true ∨ (s.tracker r).causes.slip = true := by
          simpa [Causes.isEmpty, Causes.remove, imp_iff_not_or] using more
        rw [e, if_pos others, if_pos others]
        rfl
    exact congrArg (fun t => raiseRigState r false ((s.setPort r { s.port r with beatCode := some code }).setTracker r t))
      cleared

/-! ## The delay line (R57, R58) -/

/-- The newest record that spans a frame decides it. -/
theorem decidingSlot_append {newer older : List SlotRecord} {rec : SlotRecord} {f : HouseFrame}
    (out : ∀ x ∈ newer, 32 ≤ (f - x.stamp).toNat) (spans : (f - rec.stamp).toNat < 32) :
    decidingSlot (newer ++ rec :: older) f = some rec := by
  have passed : newer.find? (fun x => x.spans f) = none :=
    List.find?_eq_none.2 fun x hx k => absurd (of_decide_eq_true k) (by have := out x hx; omega)
  rw [decidingSlot, List.find?_append, passed, Option.none_or, List.find?_cons_of_pos]
  exact decide_eq_true spans

theorem decidingSlot_none {line : List SlotRecord} {f : HouseFrame} (out : ∀ x ∈ line, 32 ≤ (f - x.stamp).toNat) :
    decidingSlot line f = none :=
  List.find?_eq_none.2 fun x hx k => absurd (of_decide_eq_true k) (by have := out x hx; omega)

theorem framePresent_of {line : List SlotRecord} {f : HouseFrame} {rec : SlotRecord} (h : decidingSlot line f = some rec) :
    framePresent line f = rec.audio.isSome := by
  rw [framePresent, h]

theorem readLine_of {line : List SlotRecord} {f stamp : HouseFrame} {a : Audio}
    (h : decidingSlot line f = some ⟨stamp, some a⟩) (c : Nat) : readLine line f c =
      if c ≤ a.channels then ((a.frames.getD (f - stamp).toNat []).getD (c - 1) 0) else 0 := by
  rw [readLine, h]

theorem readLine_absent {line : List SlotRecord} {f stamp : HouseFrame}
    (h : decidingSlot line f = some ⟨stamp, none⟩) (c : Nat) : readLine line f c = 0 := by
  rw [readLine, h]

/-- Settles O44. -/
theorem delayLineRead : Obligations.DelayLineRead := by
  refine fun line f c => ⟨fun out => ?_, fun newer older ⟨stamp, audio⟩ split_ out spans => ?_⟩
  · rw [readLine, framePresent, decidingSlot_none out]
    exact ⟨rfl, rfl⟩
  · have decides : decidingSlot line f = some ⟨stamp, audio⟩ := by rw [split_]; exact decidingSlot_append out spans
    rw [framePresent_of decides]
    refine ⟨fun (absent : audio = none) => ?_, fun a (present : audio = some a) => ?_⟩
    · subst absent
      exact ⟨readLine_absent decides c, rfl⟩
    · subst present
      rw [readLine_of decides]
      refine ⟨rfl, fun above => if_neg (by omega), fun frame x within hframe hx => (if_pos within).trans ?_⟩
      dsimp only at hframe
      rw [List.getD_eq_getElem?_getD (l := a.frames), hframe, Option.getD_some, List.getD_eq_getElem?_getD, hx, Option.getD_some]

/-! ## The tag check and the lineup search (R69, R71) -/

theorem tagCheck_beyond {s : State} {tap : Nat} {stamp : HouseFrame}
    (h : planAt s (frameBlock (stamp + BitVec.ofNat 37 tap)) = none) (tag : Tag) : tagCheck s tap stamp tag = .beyond := by
  unfold tagCheck
  dsimp only
  rw [h]

theorem tagCheck_entry {s : State} {tap : Nat} {stamp : HouseFrame} {e : PlanEntry}
    (h : planAt s (frameBlock (stamp + BitVec.ofNat 37 tap)) = some e) (tag : Tag) : tagCheck s tap stamp tag =
      if tag.code ≠ e.code ∨ tag.pass ≠ e.pass then .astray
      else if (tag.offset : Int) - (e.offset * 32 + framePhase (stamp + BitVec.ofNat 37 tap) : Nat) = 0 then .match
      else .offset ((tag.offset : Int) - (e.offset * 32 + framePhase (stamp + BitVec.ofNat 37 tap) : Nat)) := by
  unfold tagCheck
  dsimp only
  rw [h]

/-- An entry of the plan is heard at its own block: the house position's now, the others' ahead (R24). -/
theorem planAt_house {s : State} (rolling : s.tr.st = .rolling) (heard : s.tr.heard = true) :
    planAt s s.block = s.housePlan := if_pos ⟨rolling, heard, rfl⟩

theorem blockDiff_add {b : HouseBlock} {k : Nat} (h : k < 2147483648) : blockDiff (b + BitVec.ofNat 32 k) b = k := by
  have diff : b + BitVec.ofNat 32 k - b = BitVec.ofNat 32 k := by bv_omega
  rw [blockDiff, diff, BitVec.toInt_eq_toNat_cond, BitVec.toNat_ofNat, Nat.mod_eq_of_lt (by omega), if_pos (by omega)]

theorem planAt_heardAt {s : State} {j : Nat} (h : s.tr.countdown + (j + 1) < 2147483648) :
    planAt s (heardAt s s.tr.countdown (j + 1)) = s.tr.plan[j]? := by
  have ahead : blockDiff (heardAt s s.tr.countdown (j + 1)) s.block = (s.tr.countdown + (j + 1) : Nat) := blockDiff_add h
  have other : ¬(s.tr.st = .rolling ∧ s.tr.heard = true ∧ heardAt s s.tr.countdown (j + 1) = s.block) := fun ⟨_, _, e⟩ => by
    rw [e] at ahead
    rw [blockDiff, BitVec.sub_self, BitVec.toInt_zero] at ahead
    omega
  refine (if_neg other).trans ?_
  dsimp only
  have index : ((s.tr.countdown + (j + 1) : Nat) : Int) - s.tr.countdown - 1 = j := by omega
  rw [ahead, if_pos (by omega), index, Int.toNat_natCast]

theorem housePlan_code {s : State} {e : PlanEntry} (h : s.housePlan = some e) : e.code = s.codeAt e.index := by
  unfold State.housePlan at h
  split at h
  · rename_i p entry house found
    cases h
    rw [State.houseEntry, house, Option.bind_some] at found
    rw [State.codeAt, found]
    rfl
  · cases h

/-- A candidate of the search is the plan's entry for its block, and has its entry's code (R24). -/
theorem searchCandidates_planAt {s : State} (plan : s.PlanSafe)
    (heard : s.tr.st = .starting ∨ (s.tr.st = .rolling ∧ s.tr.heard = true ∧ s.tr.countdown = 0))
    (bound : s.tr.plan.length + s.tr.countdown ≤ 256) {e : PlanEntry} {b : HouseBlock}
    (mem : (e, b) ∈ searchCandidates s) : planAt s b = some e ∧ e.code = s.codeAt e.index := by
  rw [searchCandidates, List.mem_append] at mem
  obtain house | ahead := mem
  · split at house
    · rename_i rolling
      obtain ⟨p, found, same⟩ : ∃ p, s.housePlan = some p ∧ (p, s.block) = (e, b) := by simpa using house
      cases same
      have listening : s.tr.heard = true := by
        rcases heard with starting | ⟨_, listening, _⟩
        · rw [rolling] at starting
          cases starting
        · exact listening
      exact ⟨(planAt_house rolling listening).trans found, housePlan_code found⟩
    · cases house
  · obtain ⟨⟨p, j⟩, hj, same⟩ := List.mem_map.1 ahead
    cases same
    have entry : s.tr.plan[j]? = some p := by simpa using List.mk_mem_zipIdx_iff_getElem?.1 hj
    have inside : j < s.tr.plan.length := (List.getElem?_eq_some_iff.1 entry).1
    refine ⟨(planAt_heardAt (by omega)).trans entry, plan.codes p (List.mem_of_getElem? entry)⟩

/-- A frame of a block, by the difference that the search computes. -/
theorem frame_of_diff {b : HouseBlock} {phase : Nat} (h : phase < 32) {stamp : HouseFrame}
    (nonneg : 0 ≤ frameDiff (firstFrame b + BitVec.ofNat 37 phase) stamp) :
    let o := stamp + BitVec.ofNat 37 (frameDiff (firstFrame b + BitVec.ofNat 37 phase) stamp).toNat
    frameBlock o = b ∧ framePhase o = phase := by
  intro o
  have reached : o = firstFrame b + BitVec.ofNat 37 phase := by
    have value : BitVec.ofNat 37 (frameDiff (firstFrame b + BitVec.ofNat 37 phase) stamp).toNat =
        firstFrame b + BitVec.ofNat 37 phase - stamp := by
      rw [frameDiff] at nonneg ⊢
      rw [BitVec.toInt_eq_toNat_cond] at nonneg ⊢
      split at nonneg
      · rw [if_pos ‹_›, Int.toNat_natCast, BitVec.ofNat_toNat, BitVec.setWidth_eq]
      · have := (firstFrame b + BitVec.ofNat 37 phase - stamp).isLt
        omega
    change stamp + _ = _
    rw [value]
    bv_omega
  have number : o.toNat = b.toNat * 32 + phase := by
    rw [reached, firstFrame, BitVec.toNat_add, BitVec.toNat_ofNat, BitVec.toNat_ofNat]
    have := b.isLt
    omega
  have low := b.isLt
  refine ⟨BitVec.eq_of_toNat_eq ?_, ?_⟩
  · rw [frameBlock, BitVec.toNat_ofNat, number]
    omega
  · rw [framePhase, number]
    omega

/-- Settles O45. -/
theorem lineupRules : Obligations.LineupRules := by
  refine ⟨fun s tap stamp tag => ⟨fun none_ => tagCheck_beyond none_ tag, fun e entry => ⟨fun other => ?_,
    fun code pass => ⟨fun offset => ?_, fun offset => ?_⟩⟩⟩, fun s stamp tag tap plan heard bound found => ?_⟩
  · exact (tagCheck_entry entry tag).trans (if_pos other)
  · refine (tagCheck_entry entry tag).trans ((if_neg (by simp [code, pass])).trans (if_pos ?_))
    rw [offset, framePhase]
    omega
  · refine (tagCheck_entry entry tag).trans ((if_neg (by simp [code, pass])).trans (if_neg ?_))
    rw [framePhase]
    omega
  · refine ⟨lineupSearch_le found, ?_⟩
    unfold lineupSearch at found
    split at found
    · cases found
    · rename_i i index
      split at found
      · cases found
      · rename_i b search
        dsimp only at found
        split at found
        · rename_i range
          cases found
          obtain ⟨⟨e, b'⟩, last, rfl⟩ := Option.map_eq_some_iff.1 search
          obtain ⟨mem, agrees⟩ := List.mem_filter.1 (List.mem_of_getLast? last)
          have phase := frame_of_diff (b := b') (phase := tag.offset % 32) (by omega) range.1
          obtain ⟨at_, code⟩ := searchCandidates_planAt plan heard bound mem
          simp only [Bool.and_eq_true, beq_iff_eq] at agrees
          obtain ⟨⟨same, pass⟩, offset⟩ := agrees
          obtain ⟨inside, named, -⟩ := List.findIdx?_eq_some_iff_getElem.1 index
          have known : tag.code = e.code := by
            rw [code, same, State.codeAt, List.getElem?_eq_getElem inside]
            exact (beq_iff_eq.1 named).symm
          rw [tagCheck_entry (e := e) (by rw [phase.1]; exact at_), if_neg (by simp [known, pass]), phase.2, offset, if_pos]
          omega
        · cases found

end Sys2Proof.Machine

end

section
/-! SUPPORT. The commands of the source class: TAKE, EXCLUDE, ADMIT and SET GROUP (R86, R87, R121, R122, R150, R151). -/

namespace Sys2Proof.Machine

/-! ## Groups by number -/

theorem findGroup_some {gs : List Group} {n : Nat} {g : Group} (h : findGroup gs n = some g) : g ∈ gs ∧ g.num = n :=
  ⟨List.mem_of_find?_eq_some h, by simpa using List.find?_some h⟩

theorem findGroup_defined {gs : List Group} {n : Nat} (h : ∃ g ∈ gs, g.num = n) : ∃ g, findGroup gs n = some g := by
  obtain ⟨g, hg, e⟩ := h
  exact Option.isSome_iff_exists.1 (List.find?_isSome.2 ⟨g, hg, by simpa using e⟩)

theorem namedGroupsOk_eq_true {named : List Nat} {gs : List Group} : namedGroupsOk named gs = true ↔
    1 ≤ named.length ∧ named.length ≤ 8 ∧ ∀ n ∈ named, ∃ g ∈ gs, g.num = n := by
  rw [namedGroupsOk, Bool.and_eq_true, decide_eq_true_eq, and_assoc, List.all_eq_true]
  refine and_congr_right fun _ => and_congr_right fun _ => forall_congr' fun n => imp_congr_right fun _ => ⟨fun some_ => ?_,
    fun defined => Option.isSome_iff_exists.2 (findGroup_defined defined)⟩
  obtain ⟨g, hg⟩ := Option.isSome_iff_exists.1 some_
  exact ⟨g, findGroup_some hg⟩

/-! ## TAKE (R121, R122) -/

/-- Every named group stands on the rig already. -/
def allThere (r : Rig) (named : List Nat) (gs : List Group) : Bool :=
  named.all fun n => (findGroup gs n).any fun g => g.source == .rig r

theorem takeWork_unlisted {rig : Source} {named : List Nat} {s : State}
    (h : rig = .fallback ∨ ¬namedGroupsOk named s.groups = true) : takeWork rig named s = (s, .badValue) := by
  cases rig with
  | fallback => rfl
  | rig r =>
    have unlisted := h.resolve_left nofun
    exact if_pos (by simpa using unlisted)

section

variable {r : Rig} {named : List Nat} {s : State}

theorem allThere_of (listed : namedGroupsOk named s.groups = true)
    (there : ∀ g ∈ s.groups, g.num ∈ named → g.source = .rig r) : allThere r named s.groups = true := by
  obtain ⟨-, -, defined⟩ := namedGroupsOk_eq_true.1 listed
  refine List.all_eq_true.2 fun n hn => ?_
  obtain ⟨g, hg⟩ := findGroup_defined (defined n hn)
  obtain ⟨mem, num⟩ := findGroup_some hg
  rw [hg, Option.any_some, beq_iff_eq]
  exact there g mem (num ▸ hn)

theorem not_allThere (away : ∃ n ∈ named, ∀ g ∈ s.groups, g.num = n → g.source ≠ .rig r) :
    ¬allThere r named s.groups = true := fun all => by
  obtain ⟨n, hn, off⟩ := away
  have on := List.all_eq_true.1 all n hn
  cases hg : findGroup s.groups n with
  | none =>
    rw [hg] at on
    cases on
  | some g =>
    obtain ⟨mem, num⟩ := findGroup_some hg
    rw [hg, Option.any_some, beq_iff_eq] at on
    exact off g mem num on

/-- A group of the list that is not on the rig, told by number. -/
theorem away_of (apart : (s.groups.map (·.num)).Nodup) (h : ∃ g ∈ s.groups, g.num ∈ named ∧ g.source ≠ .rig r) :
    ∃ n ∈ named, ∀ g ∈ s.groups, g.num = n → g.source ≠ .rig r := by
  obtain ⟨g, hg, hn, off⟩ := h
  refine ⟨g.num, hn, fun x hx e => ?_⟩
  rw [List.inj_on_of_nodup_map apart hx hg e]
  exact off

variable (listed : namedGroupsOk named s.groups = true)

include listed

theorem takeWork_repeats (twice : ¬named.Nodup) : takeWork (.rig r) named s = (s, .duplicate) :=
  (if_neg (by simp [listed])).trans (if_pos (by
    rw [Bool.not_eq_true', Bool.eq_false_iff]
    exact fun k => twice (noRepeats_eq_true.1 k)))

theorem takeWork_listed (once : named.Nodup) : takeWork (.rig r) named s =
    if s.tr.st = .idle then (s, .wrongState)
    else if allThere r named s.groups = true then (s, .accepted)
    else if s.tr.st = .rolling then takeRolling r named s
    else takeStopped r named s :=
  (if_neg (by simp [listed])).trans (if_neg (by simpa [noRepeats_eq_true] using once))

theorem takeWork_away (once : named.Nodup) (st : s.tr.st ≠ .idle)
    (away : ∃ n ∈ named, ∀ g ∈ s.groups, g.num = n → g.source ≠ .rig r) :
    takeWork (.rig r) named s = if s.tr.st = .rolling then takeRolling r named s else takeStopped r named s := by
  rw [takeWork_listed listed once, if_neg st, if_neg (not_allThere away)]

end

theorem isExcluded_iff {s : State} {r : Rig} : s.isExcluded r = true ↔ (s.tracker r).st = .excluded := beq_iff_eq

/-- Settles O50. -/
theorem takeRefused : Obligations.TakeRefused := by
  intro rig named s h
  have refused {res : Result} (work : takeWork rig named s = (s, res)) :
      exec (.take rig named) s = .next (s.answered 0x30 res s.sourceSummary) := congrArg _ (event_command_same h work)
  refine ⟨fun unlisted => refused (takeWork_unlisted (unlisted.imp_right (mt namedGroupsOk_eq_true.1))), ?_⟩
  rintro r rfl named_
  have listed := namedGroupsOk_eq_true.2 named_
  refine ⟨fun twice => refused (takeWork_repeats listed twice), fun once => ⟨fun idle => ?_, fun st there => ?_,
    fun rolling away => ?_, fun st away off => ?_⟩⟩
  · exact refused ((takeWork_listed listed once).trans (if_pos idle))
  · exact refused ((takeWork_listed listed once).trans ((if_neg st).trans (if_pos (allThere_of listed there))))
  · have work := (takeWork_away listed once (by rw [rolling]; exact nofun) away).trans (if_pos rolling)
    refine ⟨fun busy => ?_, fun free excluded => ?_, fun free excluded ready => ?_⟩
    · exact refused (work.trans (if_pos (by simpa using busy)))
    · exact refused (work.trans ((if_neg (by simp [free])).trans (if_pos (isExcluded_iff.2 excluded))))
    · exact refused (work.trans ((if_neg (by simp [free])).trans
        ((if_neg fun k => excluded (isExcluded_iff.1 k)).trans (if_pos ready))))
  · have stopped : s.tr.st ≠ .idle ∧ s.tr.st ≠ .rolling := by
      rcases st with st | st | st <;> rw [st] <;> exact ⟨nofun, nofun⟩
    refine refused ((takeWork_away listed once stopped.1 away).trans ((if_neg stopped.2).trans (if_pos ?_)))
    rw [Bool.or_eq_true, isExcluded_iff, bne_iff_ne]
    exact off

/-- A TAKE that is taken in ROLLING with nothing open opens one take at level 4. -/
theorem openService_manual {r : Rig} {gs : List Group} {s : State} (takes : s.sw.takes = []) (idle : s.arb.inService = [])
    (next : s.sw.next < 256) (apart : (s.groups.map (·.num)).Nodup) (mem : ∀ g ∈ gs, g ∈ s.groups ∧ g.source ≠ .rig r) :
    openService ⟨4, .manual, r, .rig r, presentMembers gs⟩ s =
      { s with
        sw := ⟨[s.freshTake 4 .manual r (.rig r) gs], (s.sw.next + 1) % 256⟩
        arb := { s.arb with inService := [(4, s.sw.next)] }
        desk := s.desk.offer (.takeBegun s.sw.next .manual [4] (.rig r) (freshMembers (.rig r) gs) [] false []) s.block } := by
  unfold openService
  dsimp only
  rw [openTake_empty takes next (fun g hg => findGroup_kind apart (mem g hg).1) fun g hg => (mem g hg).2,
    takeNumber_empty takes next]
  change ({ s with
    sw := _, arb := ⟨s.arb.requests, insertLevel (4, s.sw.next) s.arb.inService⟩, desk := _ } : State) = _
  rw [idle]
  rfl

/-- Settles O51. -/
theorem takeTaken : Obligations.TakeTaken := by
  refine ⟨fun r named s h rolling takes idle ready once low high defined apart next off => ?_,
    fun r named s h st excluded locked once low high defined apart off => ?_⟩
  · have listed := namedGroupsOk_eq_true.2 ⟨low, high, defined⟩
    intro members take
    have opened := openService_manual (r := r)
      (gs := s.groups.filter fun g => named.contains g.num && !(g.source == .rig r)) takes idle next apart fun g hg => by
        rw [List.mem_filter, Bool.and_eq_true, Bool.not_eq_true', beq_eq_false_iff_ne] at hg
        exact ⟨hg.1, hg.2.2⟩
    have work : takeWork (.rig r) named s = (openService ⟨4, .manual, r, .rig r, takeMembers r named s.groups⟩ s, .accepted) :=
      (takeWork_away listed once (by rw [rolling]; exact nofun) (away_of apart off)).trans ((if_pos rolling).trans
        ((if_neg (by simp [idle])).trans ((if_neg (by rw [isExcluded_iff, ready]; exact nofun)).trans
          (if_neg fun k => k ready))))
    rw [takeMembers, opened] at work
    have row := event_command (k := 0x30) (c := .source) (w := takeWork (.rig r) named) h (by
      rw [work]
      exact (Desk.offer_replies ..).trans h.2)
    rw [work] at row
    exact next_eq row
  · have listed := namedGroupsOk_eq_true.2 ⟨low, high, defined⟩
    have stopped : s.tr.st ≠ .idle ∧ s.tr.st ≠ .rolling := by
      rcases st with st | st | st <;> rw [st] <;> exact ⟨nofun, nofun⟩
    have work : takeWork (.rig r) named s = (s.regrouped (s.groups.map fun g =>
        if named.contains g.num && !(g.source == .rig r) then g.place (.rig r) else g), .accepted) :=
      (takeWork_away listed once stopped.1 (away_of apart off)).trans ((if_neg stopped.2).trans ((if_neg (by
        simp [isExcluded_iff, excluded, locked])).trans (congrArg (·, Result.accepted) (writeGroups_eq _ s))))
    have moved : (s.groups.map fun g => if named.contains g.num && !(g.source == .rig r) then g.place (.rig r) else g) =
        s.groups.map fun g =>
          if g.num ∈ named ∧ g.source ≠ .rig r then { g with source := .rig r, uncovered := false } else g :=
      List.map_congr_left fun g _ => if_congr (by simp) rfl rfl
    rw [moved] at work
    have row := event_command (k := 0x30) (c := .source) (w := takeWork (.rig r) named) h (by
      rw [work]
      exact (Desk.offers_replies ..).trans h.2)
    rw [work] at row
    refine ⟨_, next_eq row, rfl, ?_, fun r => State.regrouped_tracker _ s r, rfl, rfl⟩
    change _ = (s.desk.offers (s.rigStates s.tracker (s.regrouped _).tracker) s.block).answered _
    rw [State.regrouped_tracker_eq]
    rfl

/-! ## EXCLUDE and ADMIT (R86, R87) -/

theorem busyRig_iff {s : State} {r : Rig} : (s.onAir r || isTarget s.sw.takes r) = true ↔
    (∃ g ∈ s.groups, g.source = .rig r) ∨ ∃ t ∈ s.sw.takes, t.target = .rig r := by
  rw [Bool.or_eq_true]
  exact or_congr carries_eq_true (by simp [isTarget])

theorem Tracker.admitted_eq (link : Link) (t : Tracker) : t.admitted link =
    if link = .locked then
      { t with st := .searching, matchCount := 0, notFound := 0, balance := 0, timer := some 0, beatDue := false }
    else { t with st := .offline } := by
  unfold Tracker.admitted
  split <;> rfl

/-- Settles O52. -/
theorem excludeAndAdmit : Obligations.ExcludeAndAdmit := by
  refine ⟨fun s h => ⟨congrArg _ (event_command_same h rfl), fun r => ⟨fun busy => ?_, fun free excluded => ?_,
    fun free excluded => ?_⟩⟩, fun s h => ⟨congrArg _ (event_command_same h rfl), fun r => ⟨fun excluded => ?_,
      fun excluded => ?_⟩⟩⟩
  · exact congrArg _ (event_command_same h (if_pos (busyRig_iff.2 busy)))
  · exact congrArg _ (event_command_same h ((if_neg (mt busyRig_iff.1 free)).trans (if_pos (isExcluded_iff.2 excluded))))
  · have work : excludeWork (.rig r) s =
        (raiseRigState r false ((s.setTracker r (s.tracker r).exclude).setRigCue r none), .accepted) :=
      (if_neg (mt busyRig_iff.1 free)).trans (if_neg (mt isExcluded_iff.1 excluded))
    have row := event_command (k := 0x31) (c := .source) (w := excludeWork (.rig r)) h (by
      rw [work]
      exact (Desk.offer_replies ..).trans h.2)
    rw [work] at row
    have tracker : ((s.setTracker r (s.tracker r).exclude).setRigCue r none).tracker r = (s.tracker r).exclude :=
      State.setTracker_tracker_self ..
    refine ⟨_, next_eq row, tracker, fun x ne => State.setTracker_tracker_other _ _ ne, rfl, ?_, rfl⟩
    change Desk.answered _ (s.desk.offer (.rigState r (s.port r).link
      (((s.setTracker r (s.tracker r).exclude).setRigCue r none).tracker r).st _ _ _ _) s.block) = _
    rw [tracker]
    rfl
  · exact congrArg _ (event_command_same h (if_neg (mt isExcluded_iff.1 excluded)))
  · have work : admitWork (.rig r) s =
        (raiseRigState r false (s.setTracker r ((s.tracker r).admitted (s.port r).link)), .accepted) :=
      if_pos (isExcluded_iff.2 excluded)
    rw [raiseRigState, State.setTracker_tracker_self, Tracker.admitted_eq] at work
    have row := event_command (k := 0x32) (c := .source) (w := admitWork (.rig r)) h (by
      rw [work]
      exact (Desk.offer_replies ..).trans h.2)
    rw [work] at row
    exact next_eq row

/-! ## SET GROUP (R150, R151) -/

/-- A group put in its place is there, and takes the place of its number's old record alone. -/
theorem mem_insertGroup_iff {g x : Group} : ∀ {gs : List Group}, (gs.Pairwise fun a b => a.num < b.num) →
    (x ∈ insertGroup g gs ↔ x = g ∨ (x ∈ gs ∧ x.num ≠ g.num))
  | [], _ => by simp [insertGroup]
  | y :: ys, apart => by
    obtain ⟨first, rest⟩ := List.pairwise_cons.1 apart
    have later (lt : g.num ≤ y.num) (hx : x ∈ ys) : x.num ≠ g.num := by
      have := first x hx
      omega
    unfold insertGroup
    split
    · rename_i le
      split
      · rename_i eq
        have old : x = y → ¬x.num ≠ g.num := fun e => by rw [e, eq]; exact fun k => k rfl
        grind
      · rename_i ne
        have kept : x = y → x.num ≠ g.num := fun e => by rw [e]; exact Ne.symm ne
        grind
    · rename_i lt
      have kept : x = y → x.num ≠ g.num := fun e => by rw [e]; omega
      rw [List.mem_cons, mem_insertGroup_iff rest, List.mem_cons]
      grind

theorem setGroupWork_busy {n : Nat} {x : Option GroupDef} {s : State}
    (h : (s.tr.st ≠ .idle ∧ s.tr.st ≠ .parked) ∨ ¬s.cond.Settled) : setGroupWork n x s = (s, .busy) := by
  refine if_pos ?_
  rw [Bool.or_eq_true, StoreCond.isWriting_eq_true]
  exact h.imp_left fun ⟨idle, parked⟩ => by simp [idle, parked]

theorem StoreCond.noted_settled {c : StoreCond} (h : c.Settled) : c.noted = c := by
  cases c with
  | writing x b => exact absurd rfl (h x b)
  | _ => rfl

section

variable {n : Nat} {s : State} (st : s.tr.st = .idle ∨ s.tr.st = .parked) (settled : s.cond.Settled)

include settled

/-- The state that a new group table leaves in the contents. -/
theorem markUnstored_regrouped (gs : List Group) :
    markUnstored (s.regrouped gs) = { s.regrouped gs with unstored := true } := by
  rw [markUnstored_eq]
  change ({ s.regrouped gs with unstored := true, cond := s.cond.noted } : State) = _
  rw [StoreCond.noted_settled settled]
  rfl

include st

theorem setGroupWork_free (x : Option GroupDef) : setGroupWork n x s = x.elim (removeGroup n s) fun d => defineGroup n d s := by
  have free : ¬(!(s.tr.st == .idle || s.tr.st == .parked) || s.cond.isWriting) = true := by
    rw [Bool.or_eq_true, StoreCond.isWriting_eq_true]
    rintro (other | writing)
    · rcases st with st | st <;> rw [st] at other <;> cases other
    · exact writing settled
  cases x <;> exact if_neg free

omit st in
/-- What a new group table that SET GROUP accepts leaves. -/
theorem setGroup_regrouped {x : Option GroupDef} {gs : List Group} (h : s.Listening)
    (work : setGroupWork n x s = (markUnstored (s.regrouped gs), .accepted)) :
    ∃ t : State, exec (.setGroup n x) s = .next t ∧ t.groups = gs ∧ t.unstored = true ∧
      t.desk = (s.desk.offers (s.rigStates s.tracker t.tracker) s.block).answered ⟨0x33, .accepted, t.sourceSummary⟩ ∧
      (∀ r, t.tracker r = s.trackerAfter t.groups r) ∧
      t.arb = { s.arb with requests := s.requestsAfter t.groups } ∧
      t = { s with groups := t.groups, trackers := t.trackers, arb := t.arb, unstored := true, desk := t.desk } := by
  rw [markUnstored_regrouped settled] at work
  have row := event_command (k := 0x33) (c := .source) (w := setGroupWork n x) h (by
    rw [work]
    exact (Desk.offers_replies ..).trans h.2)
  rw [work] at row
  refine ⟨_, next_eq row, rfl, rfl, ?_, fun r => State.regrouped_tracker _ s r, rfl, rfl⟩
  change _ = (s.desk.offers (s.rigStates s.tracker (s.regrouped gs).tracker) s.block).answered _
  rw [State.regrouped_tracker_eq]
  rfl

end

theorem GroupsSafe.ordered {gs : List Group} (h : GroupsSafe gs) : gs.Pairwise fun a b => a.num < b.num :=
  h.apart.imp fun k => k.1

/-- The record that SET GROUP gives a group that was defined, and one that was not (R150). -/
theorem definedGroup_old {n : Nat} {s : State} (ordered : s.groups.Pairwise fun a b => a.num < b.num) {g : Group}
    (h : g ∈ s.groups) (num : g.num = n) (d : GroupDef) : definedGroup n d s = { g with gdef := d } := by
  have nodup : (s.groups.map (·.num)).Nodup := (List.pairwise_map.2 ordered).imp fun k => Nat.ne_of_lt k
  rw [definedGroup, ← num, findGroup_eq_some h fun x hx e => List.inj_on_of_nodup_map nodup hx h e]

theorem definedGroup_new {n : Nat} {s : State} (h : ∀ g ∈ s.groups, g.num ≠ n) (d : GroupDef) :
    definedGroup n d s = ⟨n, d, if s.tr.st = .parked then s.armSource else .fallback, false, none⟩ := by
  rw [definedGroup, findGroup_eq_none h]

theorem overlapped_iff {n : Nat} {d : GroupDef} {gs : List Group} :
    (gs.any fun g => !(g.num == n) && g.gdef.overlaps d) = true ↔
      ∃ g ∈ gs, g.num ≠ n ∧ g.gdef.first ≤ d.last ∧ d.first ≤ g.gdef.last := by
  simp [GroupDef.overlaps]

theorem groupRange_iff {n : Nat} {d : GroupDef} : (decide (1 ≤ n ∧ n ≤ 8) && d.inRange) = true ↔
    1 ≤ n ∧ n ≤ 8 ∧ 1 ≤ d.first ∧ d.first ≤ d.last ∧ d.last ≤ 64 := by
  simp [GroupDef.inRange, and_assoc]

theorem removeGroup_defined {n : Nat} {s : State} (low : 1 ≤ n) (high : n ≤ 8) (h : ∃ g ∈ s.groups, g.num = n) :
    removeGroup n s = if s.groups.length ≤ 1 then (s, .badValue)
      else (markUnstored (writeGroups (fun gs => gs.filter fun g => !(g.num == n)) s), .accepted) := by
  obtain ⟨g, found⟩ := findGroup_defined h
  refine (if_neg (by simp [low, high])).trans ?_
  rw [found]

/-- Settles O53. -/
theorem setGroupHolds : Obligations.SetGroup := by
  refine ⟨fun n d s h => ?_, fun n s h => ?_⟩
  · have refused {res : Result} (work : setGroupWork n (some d) s = (s, res)) :
        exec (.setGroup n (some d)) s = .next (s.answered 0x33 res s.sourceSummary) := congrArg _ (event_command_same h work)
    refine ⟨fun busy => refused (setGroupWork_busy busy), fun st settled => ?_⟩
    have work := setGroupWork_free (n := n) st settled (some d)
    refine ⟨fun out => refused (work.trans (if_pos ?_)), fun range clash => refused (work.trans ((if_neg ?_).trans
      (if_pos (overlapped_iff.2 clash)))), fun range apart safe => ?_⟩
    · rw [Bool.not_eq_true', Bool.eq_false_iff]
      exact mt groupRange_iff.1 out
    · rw [groupRange_iff.2 range]
      nofun
    · have defined : setGroupWork n (some d) s =
          (markUnstored (s.regrouped (insertGroup (definedGroup n d s) s.groups)), .accepted) := by
        rw [← writeGroups_eq]
        refine work.trans ((if_neg ?_).trans (if_neg (mt overlapped_iff.1 apart)))
        rw [groupRange_iff.2 range]
        exact nofun
      obtain ⟨t, row, groups, rest⟩ := setGroup_regrouped settled h defined
      have mem (x : Group) : x ∈ t.groups ↔ x = definedGroup n d s ∨ x ∈ s.groups ∧ x.num ≠ n := by
        rw [groups, mem_insertGroup_iff safe.ordered, definedGroup_num]
      refine ⟨t, definedGroup n d s, row, (mem _).2 (.inl rfl), definedGroup_num .., definedGroup_gdef ..,
        fun x ne => ?_, fun x hx num => ?_, fun x hx num => definedGroup_old safe.ordered hx num d, fun new => ?_, rest⟩
      · rw [mem]
        refine ⟨fun k => (k.resolve_left fun e => ne ?_).1, fun k => .inr ⟨k, ne⟩⟩
        rw [e]
        exact definedGroup_num ..
      · exact ((mem x).1 hx).resolve_right fun k => k.2 num
      · rw [definedGroup_new new]
        exact ⟨rfl, rfl, fun idle => if_neg (by rw [idle]; exact nofun), fun parked => if_pos parked⟩
  · have refused {res : Result} (work : setGroupWork n none s = (s, res)) :
        exec (.setGroup n none) s = .next (s.answered 0x33 res s.sourceSummary) := congrArg _ (event_command_same h work)
    refine ⟨fun busy => refused (setGroupWork_busy busy), fun st settled => ?_⟩
    have work := setGroupWork_free (n := n) st settled none
    refine ⟨fun out => refused (work.trans (if_pos (by rw [Bool.not_eq_true', decide_eq_false_iff_not]; exact out))), fun low high none_ => refused (work.trans ?_),
      fun low high some_ one => refused (work.trans ((removeGroup_defined low high some_).trans (if_pos (by omega)))),
      fun low high some_ two => setGroup_regrouped settled h (work.trans ((removeGroup_defined low high some_).trans
        ((if_neg (by omega)).trans (by rw [writeGroups_eq]; rfl))))⟩
    refine (if_neg (by simp [low, high])).trans ?_
    rw [findGroup_eq_none none_]

end Sys2Proof.Machine

end

section
/-! SUPPORT. The outputs: the blend, the output frame, the timecode and the click (chapters 7 to 9). -/

namespace Sys2Proof.Machine

/-! ## The blend (R137) -/

/-- The weight of the incoming sample at a frame of the ramp, in 32,768ths. -/
def blendGain (L k : Nat) : Int := ((32768 * (k + 1) / L : Nat) : Int)

theorem blendGain_range {L k : Nat} (h : k < L) : 0 ≤ blendGain L k ∧ blendGain L k ≤ 32768 := by
  have le : 32768 * (k + 1) / L ≤ 32768 := Nat.div_le_of_le_mul (by rw [Nat.mul_comm L]; exact Nat.mul_le_mul_left _ h)
  exact ⟨Int.natCast_nonneg _, Int.ofNat_le.2 le⟩

theorem blendGain_last {L : Nat} (h : 0 < L) : blendGain L (L - 1) = 32768 := by
  rw [blendGain, Nat.sub_add_cancel h, Nat.mul_div_cancel _ h]
  rfl

theorem blendSample_eq (L k : Nat) (x y : Int) :
    blendSample L k x y = (x * (32768 - blendGain L k) + y * blendGain L k + 16384) / 32768 :=
  Int.fdiv_eq_ediv_of_nonneg _ (by omega)

/-- A weighted sum lies between its two samples. -/
theorem weighted_between {x y g low high : Int} (hg : 0 ≤ g ∧ g ≤ 32768) (hx : low ≤ x ∧ x ≤ high)
    (hy : low ≤ y ∧ y ≤ high) :
    32768 * low ≤ x * (32768 - g) + y * g ∧ x * (32768 - g) + y * g ≤ 32768 * high := by
  have lowX := Int.mul_le_mul_of_nonneg_right hx.1 (show 0 ≤ 32768 - g by omega)
  have lowY := Int.mul_le_mul_of_nonneg_right hy.1 hg.1
  have highX := Int.mul_le_mul_of_nonneg_right hx.2 (show 0 ≤ 32768 - g by omega)
  have highY := Int.mul_le_mul_of_nonneg_right hy.2 hg.1
  constructor <;> linarith

/-- Settles O57. -/
theorem blendRules : Obligations.BlendRules := by
  intro L k x y pos inside
  have range := blendGain_range inside
  have between := weighted_between (x := x) (y := y) (low := min x y) (high := max x y) range
    ⟨min_le_left .., le_max_left ..⟩ ⟨min_le_right .., le_max_right ..⟩
  have last (h : k = L - 1) : x * (32768 - blendGain L k) + y * blendGain L k = 32768 * y := by
    rw [h, blendGain_last pos]
    ring
  have value := blendSample_eq L k x y
  change 32768 * blendSample L k x y ≤ x * (32768 - blendGain L k) + y * blendGain L k + 16384 ∧
    x * (32768 - blendGain L k) + y * blendGain L k + 16384 < 32768 * (blendSample L k x y + 1) ∧ _
  generalize blendSample L k x y = z at *
  generalize x * (32768 - blendGain L k) + y * blendGain L k = sum at *
  exact ⟨by omega, by omega, fun h => by have := last h; omega, by omega, by omega⟩

/-! ## The output frame (R138, R152, R162) -/

/-- The segment whose timecode is running now, with the house position in it (R160, R162). -/
def State.RunsIn (p : Pos) (e : SegmentEntry) (c : TcPart) (s : State) : Prop :=
  (s.tr.st = .rolling ∧ s.tr.heard = true) ∧ s.tr.house = some p ∧ s.houseEntry = some e ∧ e.timecode = some c

theorem formRunning_none {s : State} (h : ∀ p e c, ¬s.RunsIn p e c) : formRunning s = s := by
  unfold formRunning
  split
  · rename_i rolling
    split
    · rename_i p e house entry
      split
      · rename_i c timecode
        exact absurd ⟨rolling, house, entry, timecode⟩ (h p e c)
      · rfl
    · rfl
  · rfl

theorem formRunning_runs {s : State} {p : Pos} {e : SegmentEntry} {c : TcPart} (h : s.RunsIn p e c) : formRunning s =
    if (p.offset * 32 + s.phase) % framesPerTc s.settings.rate c.rate = 0 then
      { s with tc := formTimeMsg true (tcValueAt s.settings.rate c (p.offset * 32 + s.phase)) c.rate e.code s.tc }
    else s := by
  obtain ⟨rolling, house, entry, timecode⟩ := h
  unfold formRunning
  rw [if_pos rolling, house, entry]
  dsimp only
  rw [timecode]

/-- What the running message of a frame needs does not include the program samples. -/
theorem formRunning_program (x : List Int) (s : State) :
    formRunning { s with program := x } = { s with program := x, tc := (formRunning s).tc } := by
  by_cases runs : ∃ p e c, s.RunsIn p e c
  · obtain ⟨p, e, c, h⟩ := runs
    rw [formRunning_runs h, formRunning_runs (s := { s with program := x }) h]
    dsimp only
    split <;> rfl
  · have none_ (p : Pos) (e : SegmentEntry) (c : TcPart) : ¬s.RunsIn p e c := fun h => runs ⟨p, e, c, h⟩
    rw [formRunning_none none_, formRunning_none (s := { s with program := x }) none_]

theorem programFrame_at {c : Nat} (low : 1 ≤ c) (high : c ≤ 64) (s : State) :
    (programFrame s)[c - 1]? = some (programSample s c) := by
  have inside : c - 1 < Config.channels := by
    change c - 1 < 64
    omega
  rw [programFrame, List.getElem?_map, List.getElem?_range inside, Option.map_some, Nat.sub_add_cancel low]

theorem GroupDef.covers_iff {d : GroupDef} {c : Nat} : d.covers c = true ↔ d.first ≤ c ∧ c ≤ d.last := decide_eq_true_iff

theorem programSample_none {s : State} {c : Nat} (h : ∀ g ∈ s.groups, ¬(g.gdef.first ≤ c ∧ c ≤ g.gdef.last)) :
    programSample s c = 0 := by
  have none_ : s.groups.find? (fun g => g.gdef.covers c) = none :=
    List.find?_eq_none.2 fun g hg k => h g hg (GroupDef.covers_iff.1 k)
  rw [programSample, none_]

theorem find_only {α : Type} {p : α → Bool} {l : List α} {x : α} (mem : x ∈ l) (hx : p x = true)
    (only : ∀ y ∈ l, p y = true → y = x) : l.find? p = some x := by
  obtain ⟨y, hy⟩ := Option.isSome_iff_exists.1 (List.find?_isSome.2 ⟨x, mem, hx⟩)
  rw [hy, only y (List.mem_of_find?_eq_some hy) (List.find?_some hy)]

theorem programSample_group {s : State} {c : Nat} {g : Group} (mem : g ∈ s.groups) (covers : g.gdef.first ≤ c ∧ c ≤ g.gdef.last)
    (only : ∀ h ∈ s.groups, h.gdef.first ≤ c → c ≤ h.gdef.last → h = g) : programSample s c = groupSample s g c := by
  rw [programSample, find_only mem (GroupDef.covers_iff.2 covers) fun h hh k => by
    obtain ⟨first, last⟩ := GroupDef.covers_iff.1 k
    exact only h hh first last]

theorem memberOf_none {ts : List Take} {n : Nat} (h : ∀ u ∈ ts, ∀ m ∈ u.members, m.group ≠ n) : memberOf ts n = none := by
  refine List.findSome?_eq_none_iff.2 fun u hu => ?_
  rw [Option.map_eq_none_iff, List.find?_eq_none]
  exact fun m hm k => h u hu m hm (beq_iff_eq.1 k)

theorem memberOf_first {before after : List Take} {u : Take} {m : Member} (mem : m ∈ u.members)
    (first : ∀ w ∈ before, ∀ n ∈ w.members, n.group ≠ m.group) (only : ∀ n ∈ u.members, n.group = m.group → n = m) :
    memberOf (before ++ u :: after) m.group = some (u, m) := by
  have found : u.members.find? (fun n => n.group == m.group) = some m :=
    find_only mem (beq_self_eq_true _) fun n hn k => only n hn (beq_iff_eq.1 k)
  have none_ := memberOf_none first
  unfold memberOf at none_ ⊢
  rw [List.findSome?_append, none_, Option.none_or, List.findSome?_cons_of_isSome] <;> simp [found]

theorem groupSample_free {s : State} {g : Group} (h : memberOf s.sw.takes g.num = none) (c : Nat) :
    groupSample s g c = s.sourceSample g c g.source := by
  rw [groupSample, h]

theorem groupSample_member {s : State} {g : Group} {u : Take} {m : Member} (h : memberOf s.sw.takes g.num = some (u, m))
    (c : Nat) : groupSample s g c = memberSample s g c u m := by
  rw [groupSample, h]

/-- Settles O58. -/
theorem outputFrame : Obligations.OutputFrame := by
  refine fun s on => ⟨fun done => next_event on (if_neg (Nat.not_lt.2 done)), fun inside nothing => ?_⟩
  have work : outputFrameWork s = { s with
      program := programFrame s, tc := (formRunning s).tc, phase := s.phase + 1
      sw := { s.sw with takes := s.sw.takes.map Take.rampFrame } } := by
    refine (if_pos inside).trans ?_
    rw [forceDue_nothingDue nothing, formFrame, formRunning_program]
  refine ⟨_, next_event on work, rfl, rfl, ?_, rfl, fun c low high => ?_, rfl, rfl⟩
  · exact (List.length_map ..).trans List.length_range
  · intro heard
    have source (g : Group) (src : Source) : s.sourceSample g c src = heard g src := by
      cases src <;> rfl
    change (_ → (programFrame s)[c - 1]? = _) ∧ ∀ g ∈ s.groups, _ → _ → _ → (_ → (programFrame s)[c - 1]? = _) ∧
      ∀ u m before after, _ → _ → _ → _ → _ → (_ → (programFrame s)[c - 1]? = _) ∧ (_ → (programFrame s)[c - 1]? = _) ∧
        (_ → _ → (programFrame s)[c - 1]? = _)
    rw [programFrame_at low high]
    refine ⟨fun none_ => congrArg some (programSample_none none_), fun g mem first last only => ?_⟩
    rw [programSample_group mem ⟨first, last⟩ only]
    refine ⟨fun free => ?_, fun u m before after takes hm num earlier once => ?_⟩
    · rw [groupSample_free (memberOf_none free), source]
    · have member : memberOf s.sw.takes g.num = some (u, m) := by
        rw [takes, ← num]
        exact memberOf_first hm (num ▸ earlier) (num ▸ once)
      rw [groupSample_member member, memberSample]
      refine ⟨fun st => ?_, fun st => ?_, fun st more => ?_⟩
      · rw [st, ← source]
      · rw [st, ← source]
      · rw [st, ← source, ← source]
        exact congrArg some (if_neg (Nat.not_le.2 more))

/-! ## The timecode (R160 to R165) -/

/-- The number of timecode frames from midnight to a value. -/
def tcCount (rate : Nat) (x : TcValue) : Nat := ((x.hours * 60 + x.minutes) * 60 + x.seconds) * rate + x.frames

/-- Adding timecode frames counts them from midnight, and wraps after 24 hours (R161). -/
theorem tcCount_addTcFrames {rate : Nat} (h : rate = 24 ∨ rate = 25 ∨ rate = 30) (v : TcValue) (n : Nat) :
    tcCount rate (addTcFrames v rate n) = (tcCount rate v + n) % (24 * 3600 * rate) := by
  unfold tcCount addTcFrames
  rcases h with rfl | rfl | rfl <;> dsimp only <;> omega

theorem addTcFrames_range {rate : Nat} (h : 0 < rate) (v : TcValue) (n : Nat) :
    let x := addTcFrames v rate n
    x.hours ≤ 23 ∧ x.minutes ≤ 59 ∧ x.seconds ≤ 59 ∧ x.frames < rate :=
  ⟨by unfold addTcFrames; dsimp only; omega, by unfold addTcFrames; dsimp only; omega,
    by unfold addTcFrames; dsimp only; omega, Nat.mod_lt _ h⟩

theorem houseEntry_of {s : State} {p : Pos} (h : s.tr.house = some p) : s.houseEntry = s.setList[p.index]? := by
  rw [State.houseEntry, h, Option.bind_some]

theorem handTimeMsg_idle {t : Timecode} (h : t.sending = none) (m : TimeMsg) :
    handTimeMsg m t = { t with sending := some m } := by
  rw [handTimeMsg, h]

theorem handTimeMsg_waits {t : Timecode} {x : TimeMsg} (h : t.sending = some x) (none_ : t.waiting = none) (m : TimeMsg) :
    handTimeMsg m t = { t with waiting := some m } := by
  rw [handTimeMsg, h]
  dsimp only
  rw [none_]

theorem handTimeMsg_replaces {t : Timecode} {x w : TimeMsg} (h : t.sending = some x) (some_ : t.waiting = some w)
    (m : TimeMsg) : handTimeMsg m t = { t with waiting := some { m with jump := m.jump || w.jump } } := by
  rw [handTimeMsg, h]
  dsimp only
  rw [some_]

theorem formHeld_due {s : State} {p : Pos} {e : SegmentEntry} (due : s.tc.heldDue = true) (house : s.tr.house = some p)
    (entry : s.houseEntry = some e) : formHeld s =
      { s with tc := e.timecode.elim (formTimeMsg false ⟨0, 0, 0, 0⟩ 0 e.code { s.tc with heldDue := false }) fun c =>
        formTimeMsg false (tcValueAt s.settings.rate c (p.offset * 32)) c.rate e.code { s.tc with heldDue := false } } := by
  unfold formHeld
  rw [if_pos due, house, entry]
  dsimp only
  cases e.timecode <;> rfl

/-- Settles O59. -/
theorem timecodeOut : Obligations.TimecodeOut := by
  refine ⟨fun r p f rate _ _ _ _ => ?_, fun p e c s house entry timecode => ?_, fun s h => formRunning_none ?_,
    fun s on => ⟨fun notDue => next_event on (if_neg (by rw [notDue]; nofun)), fun due p e house entry => ⟨fun c timecode => ?_,
      fun none_ => ?_⟩⟩,
    fun m t => ⟨fun idle => handTimeMsg_idle idle m, fun x sending => ⟨fun none_ => handTimeMsg_waits sending none_ m,
      fun w waiting => handTimeMsg_replaces sending waiting m⟩⟩, fun s on => next_event on rfl⟩
  · obtain ⟨hours, minutes, seconds, frames⟩ := addTcFrames_range (rate := p.rate) (by omega) p.start
      (f / framesPerTc r p.rate)
    exact ⟨hours, minutes, seconds, frames, tcCount_addTcFrames rate p.start _⟩
  · intro f q
    refine ⟨fun rolling heard multiple => ?_, fun h => ?_⟩
    · exact (formRunning_runs ⟨⟨rolling, heard⟩, house, (houseEntry_of house).trans entry, timecode⟩).trans (if_pos multiple)
    · by_cases runs : s.tr.st = .rolling ∧ s.tr.heard = true
      · refine (formRunning_runs ⟨runs, house, (houseEntry_of house).trans entry, timecode⟩).trans (if_neg ?_)
        rcases h with st | silent | other
        · exact absurd runs.1 st
        · rw [silent] at runs
          exact absurd runs.2 nofun
        · exact other
      · exact if_neg runs
  · rintro p e c ⟨⟨rolling, heard⟩, house, entry, timecode⟩
    rw [houseEntry_of house] at entry
    rcases h with st | silent | none_ | ⟨p', house', none_ | ⟨e', entry', none_⟩⟩
    · exact st rolling
    · rw [silent] at heard
      cases heard
    · rw [none_] at house
      cases house
    · cases house.symm.trans house'
      rw [none_] at entry
      cases entry
    · cases house.symm.trans house'
      cases entry.symm.trans entry'
      rw [none_] at timecode
      cases timecode
  · refine next_event on ((formHeld_due due house ((houseEntry_of house).trans entry)).trans ?_)
    rw [timecode]
    rfl
  · refine next_event on ((formHeld_due due house ((houseEntry_of house).trans entry)).trans ?_)
    rw [none_]
    rfl

/-! ## The click (R166, R167) -/

/-- A click at a beat of the grid: silence from the burst's end on, and a square wave within it (R167). -/
theorem clickOf_beat {g : Grid} {w : Nat} (pos : 0 < g.perBeat) (inside : w < g.perBeat) (r : Rate) (n : Nat) :
    clickOf r g (g.downbeat + n * g.perBeat + w) =
      if g.burst ≤ w then 0
      else if w % (if n % g.beats = 0 then accentPeriod r else 2 * accentPeriod r) <
          (if n % g.beats = 0 then accentPeriod r else 2 * accentPeriod r) / 2 then 1048576
      else -1048576 := by
  have past : g.downbeat + n * g.perBeat + w - g.downbeat = w + g.perBeat * n := by
    rw [Nat.mul_comm]
    omega
  have beat : (w + g.perBeat * n) / g.perBeat = n := by
    rw [Nat.add_mul_div_left _ _ pos, Nat.div_eq_of_lt inside, Nat.zero_add]
  have within : (w + g.perBeat * n) % g.perBeat = w := by rw [Nat.add_mul_mod_self_left, Nat.mod_eq_of_lt inside]
  refine (if_neg (by omega)).trans ?_
  rw [past, beat, within]
  rfl

/-- A square wave of even period is high where the half periods counted are even. -/
theorem square_wave {half : Nat} (h : 0 < half) (w : Nat) : w % (2 * half) < half ↔ w / half % 2 = 0 := by
  rw [← Nat.mod_mul_right_div_self, Nat.mul_comm half 2, Nat.div_eq_zero_iff]
  omega

/-- Settles O60. -/
theorem clickOut : Obligations.ClickOut := by
  refine ⟨fun r tempo pos => ?_, fun r g f n w pos inside => ?_, fun s => ⟨fun none_ => ?_, fun g p grid house => ?_⟩⟩
  · have pos' : 0 < 2 * tempo := by omega
    exact ⟨Nat.mul_div_le _ _, Nat.lt_mul_div_succ _ pos'⟩
  · intro half
    refine ⟨fun early => if_pos early, ?_⟩
    rintro rfl
    rw [clickOf_beat pos inside]
    refine ⟨fun after => if_pos after, fun during => (if_neg (Nat.not_le.2 during)).trans ?_⟩
    have period : (if n % g.beats = 0 then accentPeriod r else 2 * accentPeriod r) = 2 * half (decide (n % g.beats = 0)) ∧
        0 < half (decide (n % g.beats = 0)) := by
      by_cases accent : n % g.beats = 0 <;> cases r <;> simp [half, accent, accentPeriod]
    rw [period.1, Nat.mul_div_cancel_left _ (by omega)]
    exact if_congr (square_wave period.2 w) rfl rfl
  · rw [clickSample, none_]
  · rw [clickSample, grid, house]

end Sys2Proof.Machine

end

section
/-! SUPPORT. RESTART (R180). -/

namespace Sys2Proof.Machine

/-! ## The ports' reports to the reset trackers -/

/-- The port's link is LOCKED and its tracker stands in OFFLINE. -/
def State.arrives (s : State) (r : Rig) : Bool := decide ((s.port r).link = .locked ∧ (s.tracker r).st = .offline)

/-- The RIG_STATE of a tracker that has taken a LOCKED report. -/
def State.lockedNotice (s : State) (r : Rig) : NoticeBody :=
  let t := (s.tracker r).locked
  .rigState r (s.port r).link t.st t.cued t.tap t.causes false

theorem restartReport_arrives {s : State} {r : Rig} (h : s.arrives r = true) : restartReport s r =
    { s.setTracker r (s.tracker r).locked with desk := s.desk.offer (s.lockedNotice r) s.block } := by
  refine (if_pos (of_decide_eq_true h)).trans ?_
  rw [raiseRigState, State.setTracker_tracker_self]
  rfl

theorem restartReport_stays {s : State} {r : Rig} (h : s.arrives r = false) : restartReport s r = s :=
  if_neg (of_decide_eq_false h)

/-- A report touches its own rig's tracker and the notice queue. -/
theorem restartReport_other (s : State) {r x : Rig} (h : x ≠ r) :
    (restartReport s r).tracker x = s.tracker x ∧ (restartReport s r).port x = s.port x := by
  cases arrives : s.arrives r with
  | true =>
    rw [restartReport_arrives arrives]
    exact ⟨State.setTracker_tracker_other _ _ h, rfl⟩
  | false =>
    rw [restartReport_stays arrives]
    exact ⟨rfl, rfl⟩

/-- The reports of a list of ports, each tracker and each notice as its own port makes it. -/
theorem restartReports_spec : ∀ (rs : List Rig) (s : State), rs.Nodup →
    let t := rs.foldl restartReport s
    (∀ r, t.tracker r = if r ∈ rs ∧ s.arrives r = true then (s.tracker r).locked else s.tracker r) ∧
      t.desk = s.desk.offers ((rs.filter s.arrives).map s.lockedNotice) s.block ∧
      t = { s with trackers := t.trackers, desk := t.desk }
  | [], s, _ => ⟨fun r => (if_neg fun k => absurd k.1 List.not_mem_nil).symm, rfl, rfl⟩
  | x :: xs, s, nodup => by
    obtain ⟨fresh, rest⟩ := List.nodup_cons.1 nodup
    obtain ⟨trackers, desk, frame⟩ := restartReports_spec xs (restartReport s x) rest
    have other {r : Rig} (h : r ∈ xs) : r ≠ x := fun e => fresh (e ▸ h)
    have arrives {r : Rig} (h : r ∈ xs) : (restartReport s x).arrives r = s.arrives r := by
      rw [State.arrives, (restartReport_other s (other h)).1, (restartReport_other s (other h)).2, State.arrives]
    have notice {r : Rig} (h : r ∈ xs) : (restartReport s x).lockedNotice r = s.lockedNotice r := by
      rw [State.lockedNotice, (restartReport_other s (other h)).1, (restartReport_other s (other h)).2, State.lockedNotice]
    have told : (xs.filter (restartReport s x).arrives).map (restartReport s x).lockedNotice =
        (xs.filter s.arrives).map s.lockedNotice := by
      rw [List.filter_congr fun r h => arrives h]
      exact List.map_congr_left fun r h => notice (List.mem_of_mem_filter h)
    rw [told] at desk
    rw [List.foldl_cons]
    refine ⟨fun r => (trackers r).trans ?_, desk.trans ?_, frame.trans ?_⟩
    · by_cases e : r = x
      · subst e
        rw [if_neg fun k => fresh k.1]
        cases h : s.arrives r with
        | true =>
          rw [restartReport_arrives h, if_pos ⟨.head _, rfl⟩]
          exact State.setTracker_tracker_self ..
        | false => rw [restartReport_stays h, if_neg fun k => absurd k.2 nofun]
      · rw [(restartReport_other s e).1]
        refine if_congr ⟨fun k => ⟨.tail _ k.1, arrives k.1 ▸ k.2⟩, fun ⟨mem, k⟩ => ?_⟩ rfl rfl
        have mem := (List.mem_cons.1 mem).resolve_left e
        exact ⟨mem, arrives mem ▸ k⟩
    · cases h : s.arrives x with
      | true =>
        rw [restartReport_arrives h, List.filter_cons_of_pos h]
        rfl
      | false => rw [restartReport_stays h, List.filter_cons_of_neg (by rw [h]; nofun)]
    · cases h : s.arrives x with
      | true => rw [restartReport_arrives h]; rfl
      | false => rw [restartReport_stays h]

/-! ## The blocks -/

theorem restartBlocks_tracker (s : State) (r : Rig) : (restartBlocks s).tracker r = (s.tracker r).restart := by
  cases r <;> rfl

theorem Tracker.restart_excluded {t : Tracker} (h : t.st = .excluded) : t.restart = { Tracker.reset with st := .excluded } :=
  if_pos h

theorem Tracker.restart_other {t : Tracker} (h : t.st ≠ .excluded) : t.restart = Tracker.reset := if_neg h

theorem restartBlocks_arrives (s : State) (r : Rig) : (restartBlocks s).arrives r =
    decide ((s.tracker r).st ≠ .excluded ∧ (s.port r).link = .locked) := by
  rw [State.arrives, restartBlocks_tracker]
  by_cases excluded : (s.tracker r).st = .excluded
  · rw [Tracker.restart_excluded excluded]
    simp [excluded]
  · rw [Tracker.restart_other excluded]
    simp only [excluded, ne_eq, not_false_eq_true, true_and]
    exact decide_eq_decide.2 ⟨fun k => k.1, fun k => ⟨k, rfl⟩⟩

theorem restartBlocks_notice {s : State} {r : Rig} (h : (restartBlocks s).arrives r = true) :
    (restartBlocks s).lockedNotice r = .rigState r .locked .searching false 0 ⟨false, false, false⟩ false := by
  rw [restartBlocks_arrives] at h
  obtain ⟨excluded, locked⟩ := of_decide_eq_true h
  rw [State.lockedNotice, restartBlocks_tracker, Tracker.restart_other excluded]
  exact congrArg (fun l => NoticeBody.rigState r l .searching false 0 ⟨false, false, false⟩ false) locked

/-! ## The store (R20) -/

/-- What RESTART leaves of the store and raises about it. -/
theorem abandonStore_spec (s : State) :
    let t := abandonStore s
    (s.cond.Settled → t.cond = s.cond ∧ t.unstored = s.unstored ∧ t.retained = s.retained) ∧
      (¬s.cond.Settled → t.cond = .invalid ∧ t.unstored = true ∧ t.retained.contents = none) ∧
      t.desk = s.desk.offers (if s.cond.code = .writing then [.storeFailed .abandoned .invalid true] else []) s.block ∧
      t = { s with cond := t.cond, unstored := t.unstored, retained := t.retained, desk := t.desk, freeCount := t.freeCount } := by
  unfold abandonStore
  cases h : s.cond with
  | writing c b =>
    refine ⟨fun k => absurd rfl (k c b), fun _ => ⟨rfl, rfl, ?_⟩, rfl, rfl⟩
    exact (StoredCopy.contents_eq_none _).2 nofun
  | valid => exact ⟨fun _ => ⟨h, rfl, rfl⟩, fun k => absurd nofun k, rfl, rfl⟩
  | invalid => exact ⟨fun _ => ⟨h, rfl, rfl⟩, fun k => absurd nofun k, rfl, rfl⟩

/-- Settles O33. -/
theorem restartCommand : Obligations.RestartCommand := by
  intro s h
  obtain ⟨settled, writing, desk, store⟩ := abandonStore_spec { s with desk := s.desk.restart }
  obtain ⟨v, hv⟩ : ∃ v, v = Rig.all.foldl restartReport (restartBlocks (abandonStore { s with desk := s.desk.restart })) :=
    ⟨_, rfl⟩
  have work : restartWork s = (v, .accepted) := by rw [hv]; rfl
  generalize abandonStore { s with desk := s.desk.restart } = u at *
  obtain ⟨trackers, told, frame⟩ := restartReports_spec Rig.all (restartBlocks u) (by decide)
  rw [← hv] at trackers told frame
  have tracker (r : Rig) : u.tracker r = s.tracker r := by rw [store]; rfl
  have port (r : Rig) : u.port r = s.port r := by rw [store]; rfl
  have arrives (r : Rig) : (restartBlocks u).arrives r = decide ((s.tracker r).st ≠ .excluded ∧ (s.port r).link = .locked) := by
    rw [restartBlocks_arrives, tracker, port]
  have reset (r : Rig) : v.tracker r = if (s.tracker r).st ≠ .excluded ∧ (s.port r).link = .locked then
      (s.tracker r).restart.locked else (s.tracker r).restart := by
    rw [trackers, arrives, restartBlocks_tracker, tracker]
    exact if_congr (by cases r <;> simp [Rig.all]) rfl rfl
  have notices : (Rig.all.filter (restartBlocks u).arrives).map (restartBlocks u).lockedNotice =
      (([.A, .B, .C] : List Rig).filter fun r =>
        decide ((s.tracker r).st ≠ .excluded ∧ (s.port r).link = .locked)).map fun r =>
          .rigState r .locked .searching false 0 ⟨false, false, false⟩ false := by
    rw [← List.filter_congr fun r _ => arrives r]
    exact List.map_congr_left fun r mem => restartBlocks_notice (List.mem_filter.1 mem).2
  have shown : v.desk = s.desk.restart.offers ((if s.cond.code = .writing then [.storeFailed .abandoned .invalid true] else []) ++
      (([.A, .B, .C] : List Rig).filter fun r =>
        decide ((s.tracker r).st ≠ .excluded ∧ (s.port r).link = .locked)).map fun r =>
          .rigState r .locked .searching false 0 ⟨false, false, false⟩ false) s.block := by
    have block : (restartBlocks u).block = s.block := by rw [store]; rfl
    have before : (restartBlocks u).desk = u.desk := rfl
    rw [told, notices, block, before, desk, Desk.offers_append]
  have tr : v.tr = State.reset.tr := by rw [frame]; rfl
  have row := event_command (k := 0x27) (c := .transport) (w := restartWork) h (by
    rw [work]
    exact (congrArg Desk.replies shown).trans (Desk.offers_replies ..))
  rw [work] at row
  have cond : v.cond = u.cond ∧ v.unstored = u.unstored ∧ v.retained = u.retained := by rw [frame]; exact ⟨rfl, rfl, rfl⟩
  refine ⟨_, next_eq row, tr, ?_, ?_, ?_, ?_, ?_, fun r excluded => ?_, fun r excluded off => ?_, fun r excluded on => ?_,
    fun k => ?_, fun k => ?_, ?_, ?_⟩
  · exact congrArg State.arb frame
  · exact congrArg State.sw frame
  · exact congrArg State.grid frame
  · have tc : u.tc = s.tc := by rw [store]
    refine (congrArg State.tc frame).trans ?_
    change tcRestart u.tc = _
    rw [tc]
    rfl
  · have groups : u.groups = s.groups := by rw [store]
    refine (congrArg State.groups frame).trans ?_
    change u.groups.map _ = _
    rw [groups]
    rfl
  · refine (reset r).trans ((if_neg fun k => k.1 excluded).trans ?_)
    exact Tracker.restart_excluded excluded
  · exact (reset r).trans ((if_neg fun k => off k.2).trans (Tracker.restart_other excluded))
  · refine (reset r).trans ((if_pos ⟨excluded, on⟩).trans ?_)
    rw [Tracker.restart_other excluded]
    rfl
  · obtain ⟨a, b, c⟩ := settled k
    exact ⟨cond.1.trans a, cond.2.1.trans b, cond.2.2.trans c⟩
  · obtain ⟨a, b, c⟩ := writing k
    exact ⟨cond.1.trans a, cond.2.1.trans b, (congrArg StoredCopy.contents cond.2.2).trans c⟩
  · refine (congrArg (Desk.answered ⟨0x27, .accepted, summaryOf .transport v⟩) shown).trans ?_
    rw [summaryOf_transport, State.transportSummary, tr]
    rfl
  · clear * - frame store
    generalize v.trackers = x at frame
    generalize v.desk = d at frame
    generalize u.cond = c at store
    generalize u.unstored = b at store
    generalize u.retained = copy at store
    generalize u.desk = d' at store
    generalize u.freeCount = n at store
    subst frame store
    rfl

end Sys2Proof.Machine

end

section
/-! SUPPORT. What a block report does to a tracker: one equation for each case of the tag check and the lineup search, at a
tap that may change and at a frozen one (R68 to R79, R91 to R96). -/

namespace Sys2Proof.Machine

/-! ## GOOD reports and the runs (R91) -/

/-- A good block counted. -/
def Tracker.counted (t : Tracker) : Tracker := { t with goodRun := min (t.goodRun + 1) 32, badRun := 0 }

theorem goodCount_plain {t : Tracker} (h : t.goodRun ≠ 31 ∨ t.causes.stall = false) : goodCount t = (t.counted, false) := by
  refine if_neg fun ⟨run, held⟩ => ?_
  change t.goodRun + 1 = 32 at run
  rcases h with h | h
  · omega
  · rw [h] at held
    cases held

theorem reportStep_plain {t : Tracker} (h : t.goodRun ≠ 31 ∨ t.causes.stall = false) (s : State) (r : Rig)
    (stamp : HouseFrame) (tag : Tag) (parked : Bool) :
    reportStep s r stamp (.good tag parked) t = goodStep s r stamp tag parked false t.counted := by
  change goodStep s r stamp tag parked (goodCount t).2 (goodCount t).1 = _
  rw [goodCount_plain h]

/-- The tracker does tag work (R68). -/
def TrackerSt.Works (st : TrackerSt) : Prop := st = .searching ∨ st = .settling ∨ st = .ready ∨ st = .verifying

theorem TrackerSt.works_iff {st : TrackerSt} : st.works = true ↔ st.Works := by
  cases st <;> simp [TrackerSt.works, TrackerSt.Works]

theorem goodStep_rests {t : Tracker} (h : ¬t.st.Works) (s : State) (r : Rig) (stamp : HouseFrame) (tag : Tag)
    (parked notify : Bool) : goodStep s r stamp tag parked notify t = ⟨t, notify, false, none, false⟩ :=
  if_neg fun k => h (TrackerSt.works_iff.1 k)

section

variable {s : State} {t : Tracker} (works : t.st.Works)

include works

theorem goodStep_running (st : s.tr.st = .starting ∨ s.tr.st = .rolling) (r : Rig) (stamp : HouseFrame) (tag : Tag)
    (notify : Bool) : goodStep s r stamp tag false notify t = runningStep s r stamp tag false notify t := by
  refine (if_pos (TrackerSt.works_iff.2 works)).trans ?_
  rcases st with st | st <;> rw [st]
  rfl

theorem goodStep_rolling (st : s.tr.st = .rolling) (r : Rig) (stamp : HouseFrame) (tag : Tag) (parked notify : Bool) :
    goodStep s r stamp tag parked notify t = runningStep s r stamp tag parked notify t := by
  refine (if_pos (TrackerSt.works_iff.2 works)).trans ?_
  rw [st]

theorem goodStep_starting_parked (st : s.tr.st = .starting) (r : Rig) (stamp : HouseFrame) (tag : Tag) (notify : Bool) :
    goodStep s r stamp tag true notify t = ⟨t, notify, false, none, false⟩ := by
  refine (if_pos (TrackerSt.works_iff.2 works)).trans ?_
  rw [st]
  rfl

theorem goodStep_parked (st : s.tr.st = .parked) (r : Rig) (stamp : HouseFrame) (tag : Tag) (parked notify : Bool) :
    goodStep s r stamp tag parked notify t = cuedStep s tag parked notify t := by
  refine (if_pos (TrackerSt.works_iff.2 works)).trans ?_
  rw [st]

theorem goodStep_stopped (st : s.tr.st = .idle ∨ s.tr.st = .ended) (r : Rig) (stamp : HouseFrame) (tag : Tag)
    (parked notify : Bool) : goodStep s r stamp tag parked notify t = ⟨t, notify, false, none, false⟩ := by
  refine (if_pos (TrackerSt.works_iff.2 works)).trans ?_
  rcases st with st | st <;> rw [st]

end

/-! ## Tag work while running (R74 to R77) -/

section

variable {s : State} {r : Rig} {t : Tracker}

theorem runningStep_search (st : t.st = .searching) (free : s.tapFree r = true) (stamp : HouseFrame) (tag : Tag)
    (notify : Bool) : runningStep s r stamp tag false notify t = searchStep s stamp tag notify { t with slipRun := 0 } :=
  (if_pos st).trans ((if_neg nofun).trans (if_pos free))

theorem runningStep_free (st : t.st ≠ .searching) (free : s.tapFree r = true) (stamp : HouseFrame) (tag : Tag)
    (parked notify : Bool) : runningStep s r stamp tag parked notify t =
      freeStep s stamp tag parked (if parked = true then .astray else tagCheck s t.tap stamp tag) notify
        { t with slipRun := 0 } :=
  (if_neg st).trans (if_pos free)

theorem runningStep_frozenSearch (st : t.st = .searching) (frozen : s.tapFree r = false) (stamp : HouseFrame) (tag : Tag)
    (notify : Bool) : runningStep s r stamp tag false notify t = frozenSearchStep s (tagCheck s t.tap stamp tag) notify t :=
  (if_pos st).trans ((if_neg nofun).trans (if_neg (by rw [frozen]; nofun)))

theorem runningStep_frozen (st : t.st ≠ .searching) (frozen : s.tapFree r = false) (stamp : HouseFrame) (tag : Tag)
    (parked notify : Bool) : runningStep s r stamp tag parked notify t =
      frozenStep s (if parked = true then .astray else tagCheck s t.tap stamp tag) notify t :=
  (if_neg st).trans (if_neg (by rw [frozen]; nofun))

theorem runningStep_searchParked (st : t.st = .searching) (stamp : HouseFrame) (tag : Tag) (notify : Bool) :
    runningStep s r stamp tag true notify t = ⟨t, notify, false, none, false⟩ :=
  (if_pos st).trans (if_pos rfl)

end

/-- A check's error is not 0 (R69). -/
theorem tagCheck_offset_ne {s : State} {tap : Nat} {stamp : HouseFrame} {tag : Tag} {e : Int}
    (h : tagCheck s tap stamp tag = .offset e) : e ≠ 0 := by
  cases entry : planAt s (frameBlock (stamp + BitVec.ofNat 37 tap)) with
  | none =>
    rw [tagCheck_beyond entry] at h
    cases h
  | some p =>
    rw [tagCheck_entry entry] at h
    split at h
    · cases h
    · split at h
      · cases h
      · rename_i ne
        rw [← Check.offset.inj h]
        exact ne

/-- A correction that R74 allows. -/
def SmallError (tap : Nat) (e : Int) : Prop := e.natAbs ≤ 64 ∧ 0 ≤ (tap : Int) + e ∧ (tap : Int) + e ≤ 4064

theorem correctedTap_small {tap : Nat} {e : Int} (h : SmallError tap e) : correctedTap tap e = some ((tap : Int) + e).toNat :=
  if_pos h

theorem correctedTap_large {tap : Nat} {e : Int} (h : ¬SmallError tap e) : correctedTap tap e = none := if_neg h

/-- A result at a tap that may change that neither matches nor is corrected. -/
def Lost (tap : Nat) (c : Check) : Prop := c = .astray ∨ c = .beyond ∨ ∃ e, c = .offset e ∧ ¬SmallError tap e

/-- A tracker that goes to SEARCHING from its tag work. -/
def Tracker.lost (t : Tracker) : Tracker := { t with st := .searching, notFound := 0, verifyDue := false }

theorem freeStep_lost {t : Tracker} {c : Check} (h : Lost t.tap c) (s : State) (stamp : HouseFrame) (tag : Tag)
    (parked notify : Bool) : freeStep s stamp tag parked c notify t =
      if parked = true then ⟨t.lost, true, false, none, false⟩ else searchStep s stamp tag true t.lost := by
  rcases h with rfl | rfl | ⟨e, rfl, large⟩
  · rfl
  · rfl
  · unfold freeStep
    dsimp only
    rw [correctedTap_large large]
    rfl

theorem freeStep_match (s : State) (stamp : HouseFrame) (tag : Tag) (parked notify : Bool) (t : Tracker) :
    freeStep s stamp tag parked .match notify t = matchStep notify t := rfl

theorem freeStep_corrected {t : Tracker} {e : Int} (h : SmallError t.tap e) (s : State) (stamp : HouseFrame) (tag : Tag)
    (parked notify : Bool) : freeStep s stamp tag parked (.offset e) notify t =
      ⟨{ t.breakMatches with tap := ((t.tap : Int) + e).toNat }, notify, false, none, false⟩ := by
  unfold freeStep
  dsimp only
  rw [correctedTap_small h]

theorem Check.cases_free (tap : Nat) (c : Check) : c = .match ∨ (∃ e, c = .offset e ∧ SmallError tap e) ∨ Lost tap c := by
  match c with
  | .match => exact .inl rfl
  | .offset e =>
    by_cases small : SmallError tap e
    · exact .inr (.inl ⟨e, rfl, small⟩)
    · exact .inr (.inr (.inr (.inr ⟨e, rfl, small⟩)))
  | .astray => exact .inr (.inr (.inl rfl))
  | .beyond => exact .inr (.inr (.inr (.inl rfl)))

/-! ## A search (R72, R74) -/

theorem searchStep_found {s : State} {stamp : HouseFrame} {tag : Tag} {d : Nat} (h : lineupSearch s stamp tag = some d)
    (notify : Bool) (t : Tracker) : searchStep s stamp tag notify t =
      ⟨{ t with st := .settling, tap := d, matchCount := 0, notFound := 0 }, true, false, none, false⟩ := by
  rw [searchStep, h]

theorem searchStep_none {s : State} {stamp : HouseFrame} {tag : Tag} (h : lineupSearch s stamp tag = none)
    (notify : Bool) (t : Tracker) : searchStep s stamp tag notify t =
      if s.settings.verify ≤ t.notFound + 1 then ⟨{ t with notFound := 0 }, true, true, none, false⟩
      else ⟨{ t with notFound := t.notFound + 1 }, notify, false, none, false⟩ := by
  rw [searchStep, h]
  dsimp only
  unfold countNotFound
  split
  · rw [Bool.or_true]
  · rw [Bool.or_false]

/-! ## A MATCH (R74, R75, R78, R81) -/

theorem matchStep_settling {t : Tracker} (h : t.st = .settling) (notify : Bool) : matchStep notify t =
    if 15 ≤ t.matchCount then ⟨{ t with st := .ready, matchCount := 16 }, true, false, none, true⟩
    else ⟨{ t with matchCount := t.matchCount + 1 }, notify, false, none, false⟩ := by
  rw [matchStep, h]
  exact if_congr (by change 16 ≤ _ ↔ _; omega) rfl rfl

theorem matchStep_verifying {t : Tracker} (h : t.st = .verifying) (notify : Bool) : matchStep notify t =
    ⟨{ t with st := .ready, verify := 0, verifyDue := false }, true, false, none, true⟩ := by
  rw [matchStep, h]

theorem matchStep_ready {t : Tracker} (h : t.st = .ready) (notify : Bool) :
    matchStep notify t = ⟨t, notify, false, none, false⟩ := by
  rw [matchStep, h]

/-! ## The slip run (R95, R96) -/

/-- A check result that returns the slip run to 0. -/
def Check.Passes (window : Nat) (c : Check) : Prop := c = .match ∨ ∃ e, c = .offset e ∧ e.natAbs ≤ window

theorem slipRunAfter_passes {window : Nat} {c : Check} (h : c.Passes window) (run : Nat) : slipRunAfter window run c = 0 := by
  rcases h with rfl | ⟨e, rfl, small⟩
  · rfl
  · exact if_pos small

theorem slipRunAfter_fails {window : Nat} {c : Check} (h : ¬c.Passes window) (run : Nat) :
    slipRunAfter window run c = run + 1 := by
  match c with
  | .match => exact absurd (.inl rfl) h
  | .offset e => exact if_neg fun k => h (.inr ⟨e, rfl, k⟩)
  | .astray => rfl
  | .beyond => rfl

theorem slipStep_kept {s : State} {c : Check} {x : TrackerStep} (h : slipRunAfter s.settings.slipWindow x.t.slipRun c < 4) :
    slipStep s c x = { x with t := { x.t with slipRun := slipRunAfter s.settings.slipWindow x.t.slipRun c } } :=
  if_neg (Nat.not_le.2 h)

theorem slipStep_slips {s : State} {c : Check} {x : TrackerStep} (h : 4 ≤ slipRunAfter s.settings.slipWindow x.t.slipRun c) :
    slipStep s c x = { x with t := x.t.fail .slip, notify := true, detection := some .slip } :=
  if_pos h

theorem frozenStep_other {c : Check} (h : c ≠ .match) (s : State) (notify : Bool) (t : Tracker) :
    frozenStep s c notify t = slipStep s c ⟨t.breakMatches, notify, false, none, false⟩ := by
  match c with
  | .match => exact absurd rfl h
  | .offset _ => rfl
  | .astray => rfl
  | .beyond => rfl

theorem frozenSearchStep_other {c : Check} (h : c ≠ .match) (s : State) (notify : Bool) (t : Tracker) :
    frozenSearchStep s c notify t = slipStep s c
      (if s.settings.verify ≤ t.notFound + 1 then ⟨{ t with notFound := 0 }, true, true, none, false⟩
        else ⟨{ t with notFound := t.notFound + 1 }, notify, false, none, false⟩) := by
  have counted : (⟨(countNotFound s.settings.verify t).1, notify || (countNotFound s.settings.verify t).2,
      (countNotFound s.settings.verify t).2, none, false⟩ : TrackerStep) =
        if s.settings.verify ≤ t.notFound + 1 then ⟨{ t with notFound := 0 }, true, true, none, false⟩
        else ⟨{ t with notFound := t.notFound + 1 }, notify, false, none, false⟩ := by
    unfold countNotFound
    split
    · rw [Bool.or_true]
    · rw [Bool.or_false]
  rw [← counted]
  match c with
  | .match => exact absurd rfl h
  | .offset _ => rfl
  | .astray => rfl
  | .beyond => rfl

theorem Tracker.breakMatches_eq (t : Tracker) :
    t.breakMatches = { t with matchCount := if t.st = .settling then 0 else t.matchCount } := by
  unfold Tracker.breakMatches
  split <;> rfl

end Sys2Proof.Machine

end

section
/-! SUPPORT. The tag work of a GOOD report while running (R68 to R78, R95, R96, R118). -/

namespace Sys2Proof.Machine

section

variable {s : State} {r : Rig} {t : Tracker} (st : s.tr.st = .starting ∨ s.tr.st = .rolling) (free : s.tapFree r = true)
  (stall : t.causes.stall = false)

include st free stall

/-- A GOOD report at a tap that may change: the tag is searched, the check matches, or a small error is corrected. -/
theorem reportStep_free (works : t.st.Works) (stamp : HouseFrame) (tag : Tag) :
    let x := reportStep s r stamp (.good tag false) t
    let c := tagCheck s t.tap stamp tag
    (t.st = .searching ∧ x = searchStep s stamp tag false { t.counted with slipRun := 0 }) ∨
      (t.st ≠ .searching ∧ Lost t.tap c ∧
        x = searchStep s stamp tag true { t.counted.lost with slipRun := 0 }) ∨
      (t.st ≠ .searching ∧ c = .match ∧ x = matchStep false { t.counted with slipRun := 0 }) ∨
      ∃ e, t.st ≠ .searching ∧ c = .offset e ∧ SmallError t.tap e ∧ e ≠ 0 ∧
        x = ⟨{ t.counted with
          slipRun := 0, matchCount := if t.st = .settling then 0 else t.matchCount
          tap := ((t.tap : Int) + e).toNat }, false, false, none, false⟩ := by
  intro x c
  have plain : x = runningStep s r stamp tag false false t.counted :=
    (reportStep_plain (.inr stall) ..).trans (goodStep_running (t := t.counted) works st ..)
  by_cases searching : t.st = .searching
  · exact .inl ⟨searching, plain.trans (runningStep_search (t := t.counted) searching free ..)⟩
  · have check : x = freeStep s stamp tag false c false { t.counted with slipRun := 0 } :=
      plain.trans (runningStep_free (t := t.counted) searching free ..)
    rcases Check.cases_free t.tap c with found | ⟨e, off, small⟩ | lost
    · refine .inr (.inr (.inl ⟨searching, found, check.trans ?_⟩))
      rw [found]
      rfl
    · refine .inr (.inr (.inr ⟨e, searching, off, small, tagCheck_offset_ne off, check.trans ?_⟩))
      rw [off, freeStep_corrected (t := { t.counted with slipRun := 0 }) small, Tracker.breakMatches_eq]
      rfl
    · refine .inr (.inl ⟨searching, lost, check.trans ((freeStep_lost (t := { t.counted with slipRun := 0 }) lost ..).trans ?_)⟩)
      exact if_neg nofun

end

/-- What a slip run that fails leaves of a tracker at work (R95, R96). -/
theorem slipStep_spec {s : State} {c : Check} {x : TrackerStep} (h : x.t.st ≠ .failed) :
    (c.Passes s.settings.slipWindow → slipStep s c x = { x with t := { x.t with slipRun := 0 } }) ∧
      (¬c.Passes s.settings.slipWindow → x.t.slipRun < 3 →
        slipStep s c x = { x with t := { x.t with slipRun := x.t.slipRun + 1 } }) ∧
      (¬c.Passes s.settings.slipWindow → 3 ≤ x.t.slipRun → slipStep s c x =
        { x with
          t := { x.t with
            st := .failed, cued := false, matchCount := 0, verify := 0, notFound := 0, slipRun := 0
            causes := { x.t.causes with slip := true } }
          notify := true, detection := some .slip }) := by
  refine ⟨fun passes => ?_, fun fails low => ?_, fun fails high => ?_⟩
  · have run := slipRunAfter_passes passes x.t.slipRun
    rw [slipStep_kept (by rw [run]; omega), run]
  · have run := slipRunAfter_fails fails x.t.slipRun
    rw [slipStep_kept (by rw [run]; omega), run]
  · have run := slipRunAfter_fails fails x.t.slipRun
    rw [slipStep_slips (by rw [run]; omega), Tracker.fail_eq, if_neg h]
    rfl

/-- What a result at a frozen tap that is no MATCH does to a tracker at work, before the slip run is judged (R72, R75, R77). -/
def TrackerStep.UnmatchedBy (s : State) (t : Tracker) (y : TrackerStep) : Prop :=
  (t.st = .searching ∧ s.settings.verify ≤ t.notFound + 1 ∧ y = ⟨{ t.counted with notFound := 0 }, true, true, none, false⟩) ∨
    (t.st = .searching ∧ t.notFound + 1 < s.settings.verify ∧
      y = ⟨{ t.counted with notFound := t.notFound + 1 }, false, false, none, false⟩) ∨
    (t.st ≠ .searching ∧
      y = ⟨{ t.counted with matchCount := if t.st = .settling then 0 else t.matchCount }, false, false, none, false⟩)

section

variable {s : State} {r : Rig} {t : Tracker} (st : s.tr.st = .rolling) (frozen : s.tapFree r = false)
  (stall : t.causes.stall = false)

include st frozen stall

/-- A GOOD report at a frozen tap: a MATCH, or a result that the slip run judges. -/
theorem reportStep_frozen (works : t.st.Works) (stamp : HouseFrame) (tag : Tag) :
    let x := reportStep s r stamp (.good tag false) t
    let c := tagCheck s t.tap stamp tag
    (c = .match ∧ t.st = .searching ∧
        x = ⟨{ t.counted with st := .settling, matchCount := 0, slipRun := 0 }, true, false, none, false⟩) ∨
      (c = .match ∧ t.st ≠ .searching ∧ x = matchStep false { t.counted with slipRun := 0 }) ∨
      (c ≠ .match ∧ ∃ y, y.UnmatchedBy s t ∧ x = slipStep s c y) := by
  intro x c
  have plain : x = runningStep s r stamp tag false false t.counted :=
    (reportStep_plain (.inr stall) ..).trans (goodStep_rolling (t := t.counted) works st ..)
  by_cases searching : t.st = .searching
  · have check : x = frozenSearchStep s c false t.counted :=
      plain.trans (runningStep_frozenSearch (t := t.counted) searching frozen ..)
    by_cases found : c = .match
    · refine .inl ⟨found, searching, check.trans ?_⟩
      rw [found]
      rfl
    · refine .inr (.inr ⟨found, _, ?_, check.trans (frozenSearchStep_other found ..)⟩)
      split
      · exact .inl ⟨searching, ‹_›, rfl⟩
      · exact .inr (.inl ⟨searching, Nat.lt_of_not_le ‹_›, rfl⟩)
  · have check : x = frozenStep s c false t.counted :=
      plain.trans (runningStep_frozen (t := t.counted) searching frozen ..)
    by_cases found : c = .match
    · refine .inr (.inl ⟨found, searching, check.trans ?_⟩)
      rw [found]
      rfl
    · refine .inr (.inr ⟨found, _, .inr (.inr ⟨searching, rfl⟩), check.trans ((frozenStep_other found ..).trans ?_)⟩)
      rw [Tracker.breakMatches_eq]
      rfl

end

theorem slipStep_flags (s : State) (c : Check) (x : TrackerStep) :
    (slipStep s c x).ready = x.ready ∧ (slipStep s c x).notFound = x.notFound := by
  unfold slipStep
  dsimp only
  split <;> exact ⟨rfl, rfl⟩

/-- A parked report neither takes a tracker to READY nor counts to a NOT_FOUND (R68). -/
theorem goodStep_parkedTag {t : Tracker} (works : t.st.Works) (s : State) (r : Rig) (stamp : HouseFrame) (tag : Tag)
    (notify : Bool) : (goodStep s r stamp tag true notify t).ready = false ∧
      (goodStep s r stamp tag true notify t).notFound = false := by
  cases st : s.tr.st with
  | idle => rw [goodStep_stopped works (.inl st)]; exact ⟨rfl, rfl⟩
  | ended => rw [goodStep_stopped works (.inr st)]; exact ⟨rfl, rfl⟩
  | parked => rw [goodStep_parked works st]; exact ⟨rfl, rfl⟩
  | starting => rw [goodStep_starting_parked works st]; exact ⟨rfl, rfl⟩
  | rolling =>
    rw [goodStep_rolling works st]
    by_cases searching : t.st = .searching
    · rw [runningStep_searchParked searching]
      exact ⟨rfl, rfl⟩
    · cases free : s.tapFree r with
      | true =>
        rw [runningStep_free searching free, if_pos rfl, freeStep_lost (.inl rfl)]
        exact ⟨rfl, rfl⟩
      | false =>
        rw [runningStep_frozen searching free, if_pos rfl, frozenStep_other (c := .astray) nofun]
        exact slipStep_flags ..

theorem tapFree_air {s : State} {r : Rig} (st : s.tr.st = .rolling) (air : s.onAir r = true) : s.tapFree r = false := by
  simp [State.tapFree, st, air]

theorem tapFree_off {s : State} {r : Rig} (off : s.onAir r = false) : s.tapFree r = true := by
  simp [State.tapFree, off]

theorem Lost.not_match {tap : Nat} {c : Check} (h : Lost tap c) : c ≠ .match := by
  rcases h with rfl | rfl | ⟨e, rfl, -⟩ <;> nofun

theorem Lost.not_small {tap : Nat} {c : Check} (h : Lost tap c) {e : Int} (off : c = .offset e) : ¬SmallError tap e := by
  subst off
  rcases h with h | h | ⟨f, h, large⟩
  · cases h
  · cases h
  · exact Check.offset.inj h ▸ large

theorem not_lost_match {tap : Nat} {c : Check} (h : c = .match) : ¬Lost tap c := fun k => k.not_match h

theorem not_lost_small {tap : Nat} {c : Check} {e : Int} (h : c = .offset e) (small : SmallError tap e) : ¬Lost tap c :=
  fun k => k.not_small h small

/-- Settles O46. -/
theorem tagWork : Obligations.TagWork := by
  refine ⟨fun r stamp tag s st free stall => ?_, fun r stamp tag s st air stall works => ?_,
    fun r stamp tag s stall works => ?_, fun r s => ?_⟩
  · intro t x u check small lost
    by_cases works : t.st.Works
    · have ne (e : Int) (h : check = .offset e) : e ≠ 0 := tagCheck_offset_ne h
      have cases_ := reportStep_free st free stall works stamp tag
      change (t.st = .searching ∧ x = _) ∨ (_ ∧ lost ∧ x = _) ∨ (_ ∧ check = _ ∧ x = _) ∨
        ∃ e, _ ∧ check = _ ∧ small e ∧ _ ∧ x = _ at cases_
      have apart : lost → check ≠ .match ∧ ∀ e, check = .offset e → ¬small e := fun h =>
        ⟨Lost.not_match (tap := t.tap) h, fun e off => Lost.not_small (tap := t.tap) h off⟩
      have apart' : lost ∨ check = .match ∨ ∃ e, check = .offset e ∧ small e := by
        rcases Check.cases_free t.tap check with h | h | h
        · exact .inr (.inl h)
        · exact .inr (.inr h)
        · exact .inl h
      have reach (e : Int) (h : small e) : 0 ≤ (t.tap : Int) + e := h.2.1
      change t.st = .searching ∨ t.st = .settling ∨ t.st = .ready ∨ t.st = .verifying at works
      clear_value check lost small x
      rcases cases_ with ⟨searching, e⟩ | ⟨searching, hl, e⟩ | ⟨searching, hm, e⟩ | ⟨d, searching, off, hs, nz, e⟩
      · cases search : lineupSearch s stamp tag with
        | some d =>
          rw [searchStep_found search] at e
          subst e
          simp [u, searching]
        | none =>
          rw [searchStep_none search] at e
          split at e <;> subst e <;> simp_all [u, Tracker.counted] <;> grind
      · obtain ⟨unmatched, large⟩ := apart hl
        cases search : lineupSearch s stamp tag with
        | some d =>
          rw [searchStep_found search] at e
          subst e
          simp_all [u, Tracker.counted, Tracker.lost]
          grind
        | none =>
          rw [searchStep_none search] at e
          split at e <;> subst e <;> simp_all [u, Tracker.counted, Tracker.lost] <;> grind
      · have found : ¬lost := fun h => (apart h).1 hm
        rcases works.resolve_left searching with settling | ready | verifying
        · rw [matchStep_settling (t := { t.counted with slipRun := 0 }) settling] at e
          split at e <;> subst e <;> simp_all [u, Tracker.counted]
        · rw [matchStep_ready (t := { t.counted with slipRun := 0 }) ready] at e
          subst e
          simp_all [u, Tracker.counted]
        · rw [matchStep_verifying (t := { t.counted with slipRun := 0 }) verifying] at e
          subst e
          simp_all [u, Tracker.counted]
      · have found : ¬lost := fun h => (apart h).2 d off hs
        have reached := reach d hs
        subst e
        simp_all [u, Tracker.counted]
        grind
    · have plain : x = ⟨t.counted, false, false, none, false⟩ :=
        (reportStep_plain (.inr stall) ..).trans (goodStep_rests (t := t.counted) works ..)
      clear_value x
      subst plain
      simp only [TrackerSt.Works, not_or] at works
      obtain ⟨a, b, c, d⟩ := works
      simp [u, Tracker.counted, a, b, c, d]
  · intro t x check passes
    change t.causes.stall = false at stall
    change t.st.Works at works
    clear_value t
    have cases_ := reportStep_frozen st (tapFree_air st air) stall works stamp tag
    change (check = _ ∧ _ ∧ x = _) ∨ (check = _ ∧ _ ∧ x = _) ∨
      (check ≠ _ ∧ ∃ y : TrackerStep, _ ∧ x = slipStep s check y) at cases_
    have unfailed : t.st ≠ .failed := fun e => by
      rcases works with w | w | w | w <;> cases e.symm.trans w
    have match_passes : check = .match → passes := .inl
    have judged (y : TrackerStep) := slipStep_spec (s := s) (c := check) (x := y)
    change ∀ y : TrackerStep, _ → (passes → _) ∧ (¬passes → _) ∧ (¬passes → _) at judged
    change t.st = .searching ∨ t.st = .settling ∨ t.st = .ready ∨ t.st = .verifying at works
    clear_value check passes x
    rcases cases_ with ⟨found, searching, e⟩ | ⟨found, searching, e⟩ | ⟨found, y, shape, e⟩
    · subst e
      simp_all [Tracker.counted]
    · rcases works.resolve_left searching with settling | ready | verifying
      · rw [matchStep_settling (t := { t.counted with slipRun := 0 }) settling] at e
        split at e <;> subst e <;> simp_all [Tracker.counted]
      · rw [matchStep_ready (t := { t.counted with slipRun := 0 }) ready] at e
        subst e
        simp_all [Tracker.counted]
      · rw [matchStep_verifying (t := { t.counted with slipRun := 0 }) verifying] at e
        subst e
        simp_all [Tracker.counted]
    · have same : y.t.st = t.st ∧ y.t.slipRun = t.slipRun := by
        rcases shape with ⟨-, -, rfl⟩ | ⟨-, -, rfl⟩ | ⟨-, rfl⟩ <;> exact ⟨rfl, rfl⟩
      obtain ⟨pass, count, slip⟩ := judged y (by rw [same.1]; exact unfailed)
      rw [same.2] at count slip
      clear judged same
      by_cases passed : passes
      · rw [pass passed] at e
        clear pass count slip
        rcases shape with ⟨searching, verify, rfl⟩ | ⟨searching, verify, rfl⟩ | ⟨searching, rfl⟩ <;> subst e <;>
          simp_all [Tracker.counted]
      · by_cases low : t.slipRun < 3
        · rw [count passed low] at e
          clear pass count slip
          have ne : t.slipRun ≠ 3 := by omega
          rcases shape with ⟨searching, verify, rfl⟩ | ⟨searching, verify, rfl⟩ | ⟨searching, rfl⟩ <;> subst e <;>
            simp_all [Tracker.counted]
        · rw [slip passed (Nat.not_lt.1 low)] at e
          clear pass count slip
          have moved : TrackerSt.failed ≠ t.st := Ne.symm unfailed
          rcases shape with ⟨searching, verify, rfl⟩ | ⟨searching, verify, rfl⟩ | ⟨searching, rfl⟩ <;> subst e <;>
            simp_all [Tracker.counted]
  · intro t x counted
    change t.causes.stall = false at stall
    change t.st.Works at works
    clear_value t
    have plain : x = goodStep s r stamp tag true false counted := reportStep_plain (.inr stall) ..
    have unfailed : t.st ≠ .failed := fun e => by
      rcases works with w | w | w | w <;> cases e.symm.trans w
    have rests (st : s.tr.st = .starting ∨ (s.tr.st = .rolling ∧ t.st = .searching)) :
        x = ⟨counted, false, false, none, false⟩ := by
      rcases st with st | ⟨st, searching⟩
      · exact plain.trans (goodStep_starting_parked (t := counted) works st ..)
      · exact plain.trans ((goodStep_rolling (t := counted) works st ..).trans
          (runningStep_searchParked (t := counted) searching ..))
    have lost (st : s.tr.st = .rolling) (searching : t.st ≠ .searching) (off : s.onAir r = false) :
        x = ⟨{ counted.lost with slipRun := 0 }, true, false, none, false⟩ :=
      plain.trans ((goodStep_rolling (t := counted) works st ..).trans
        ((runningStep_free (t := counted) searching (tapFree_off off) ..).trans
          ((freeStep_lost (.inl rfl) ..).trans (if_pos rfl))))
    have judged (st : s.tr.st = .rolling) (searching : t.st ≠ .searching) (air : s.onAir r = true) :
        x = slipStep s .astray ⟨counted.breakMatches, false, false, none, false⟩ :=
      plain.trans ((goodStep_rolling (t := counted) works st ..).trans
        ((runningStep_frozen (t := counted) searching (tapFree_air st air) ..).trans rfl))
    have slips := slipStep_spec (s := s) (c := .astray)
      (x := ⟨counted.breakMatches, false, false, none, false⟩) (by rw [Tracker.breakMatches_eq]; exact unfailed)
    have fails : ¬Check.Passes s.settings.slipWindow .astray := by
      rintro (h | ⟨e, h, -⟩) <;> cases h
    obtain ⟨-, count, slip⟩ := slips
    rw [Tracker.breakMatches_eq] at judged count slip
    refine ⟨fun st => ?_, ?_, ?_, fun st searching off => ?_, fun st searching air => ?_⟩
    · rw [rests st]
      exact ⟨rfl, rfl, rfl⟩
    · rw [plain]
      exact (goodStep_parkedTag (t := counted) works ..).1
    · rw [plain]
      exact (goodStep_parkedTag (t := counted) works ..).2
    · rw [lost st searching off]
      exact ⟨rfl, rfl, rfl, rfl, rfl⟩
    · rw [judged st searching air]
      refine ⟨?_, fun low => ?_, fun high => ?_⟩
      · rcases Nat.lt_or_ge t.slipRun 3 with low | high
        · rw [count fails low]
        · rw [slip fails high]
      · rw [count fails low]
        exact ⟨rfl, rfl, rfl⟩
      · rw [slip fails (Nat.le_of_eq high.symm)]
        exact ⟨rfl, rfl, rfl, rfl, rfl⟩
  · have recover : recoverOpen s = true ↔ s.settings.recover = true ∧ s.tr.st = .rolling ∧
        (∀ p ∈ s.arb.requests, p.level ≠ 4) ∧ (∀ x ∈ s.arb.inService, x.1 ≠ 4) ∧
        ∃ g ∈ s.groups, g.gdef.follow = .follow ∧ (g.source = .fallback ∨ g.uncovered = true) := by
      rw [recoverOpen_eq_true]
      refine and_congr_right fun _ => and_congr_right fun _ => and_congr_right fun _ => and_congr_right fun _ => ?_
      rw [ne_eq, List.eq_nil_iff_forall_not_mem, not_forall_not]
      simp only [mem_inDifficulty]
    refine ⟨fun closed => readyArrival_closed (mt recover.1 closed) r,
      fun opens quiet => readyArrival_recovered quiet (recover.2 opens) r, fun opens empty busy => ?_⟩
    obtain ⟨-, -, -, -, difficulty⟩ := recoverOpen_eq_true.1 (recover.2 opens)
    refine (if_pos (recover.2 opens)).trans ?_
    have added : (if (s.arb.requests.any fun p => p.level == 4 && p.rig == r) = true then s
        else s.onRequests fun qs => qs ++ [⟨4, r, .recover, s.block⟩]) =
          { s with arb := { s.arb with requests := [⟨4, r, .recover, s.block⟩] } } := by
      rw [empty]
      change ({ s with arb := { s.arb with requests := s.arb.requests ++ [_] } } : State) = _
      rw [empty, List.nil_append]
    unfold request
    rw [added]
    exact examine_waits rfl (recover_fresh rfl difficulty) busy

end Sys2Proof.Machine

end

section
/-! SUPPORT. CUED while PARKED, and the runs of bad and good blocks (R68, R79, R91 to R93). -/

namespace Sys2Proof.Machine

/-! ## What tag work leaves of the runs -/

/-- The runs of bad and good blocks are the same. -/
def SameRuns (t u : Tracker) : Prop := u.badRun = t.badRun ∧ u.goodRun = t.goodRun

theorem countNotFound_runs (span : Nat) (t : Tracker) : SameRuns t (countNotFound span t).1 := by
  unfold countNotFound
  split <;> exact ⟨rfl, rfl⟩

theorem searchStep_runs (s : State) (stamp : HouseFrame) (tag : Tag) (notify : Bool) (t : Tracker) :
    SameRuns t (searchStep s stamp tag notify t).t := by
  unfold searchStep
  split
  · exact ⟨rfl, rfl⟩
  · exact countNotFound_runs _ t

theorem matchStep_runs (notify : Bool) (t : Tracker) : SameRuns t (matchStep notify t).t := by
  unfold matchStep
  split
  · split <;> exact ⟨rfl, rfl⟩
  · exact ⟨rfl, rfl⟩
  · exact ⟨rfl, rfl⟩

theorem Tracker.breakMatches_runs (t : Tracker) : SameRuns t t.breakMatches := by
  rw [Tracker.breakMatches_eq]
  exact ⟨rfl, rfl⟩

theorem freeStep_runs (s : State) (stamp : HouseFrame) (tag : Tag) (parked : Bool) (c : Check) (notify : Bool) (t : Tracker) :
    SameRuns t (freeStep s stamp tag parked c notify t).t := by
  rcases Check.cases_free t.tap c with rfl | ⟨e, rfl, small⟩ | lost
  · exact matchStep_runs notify t
  · rw [freeStep_corrected small]
    exact t.breakMatches_runs
  · rw [freeStep_lost lost]
    split
    · exact ⟨rfl, rfl⟩
    · exact searchStep_runs s stamp tag true t.lost

theorem Tracker.fail_runs (t : Tracker) (d : Detection) : SameRuns t (t.fail d) := by
  rw [Tracker.fail_eq]
  split <;> exact ⟨rfl, rfl⟩

theorem slipStep_runs {t : Tracker} {x : TrackerStep} (h : SameRuns t x.t) (s : State) (c : Check) :
    SameRuns t (slipStep s c x).t := by
  unfold slipStep
  dsimp only
  split
  · exact ⟨(x.t.fail_runs .slip).1.trans h.1, (x.t.fail_runs .slip).2.trans h.2⟩
  · exact h

theorem frozenStep_runs (s : State) (c : Check) (notify : Bool) (t : Tracker) : SameRuns t (frozenStep s c notify t).t := by
  by_cases found : c = .match
  · rw [found]
    exact matchStep_runs notify { t with slipRun := 0 }
  · rw [frozenStep_other found]
    exact slipStep_runs t.breakMatches_runs s c

theorem frozenSearchStep_runs (s : State) (c : Check) (notify : Bool) (t : Tracker) :
    SameRuns t (frozenSearchStep s c notify t).t := by
  by_cases found : c = .match
  · rw [found]
    exact ⟨rfl, rfl⟩
  · rw [frozenSearchStep_other found]
    refine slipStep_runs ?_ s c
    split <;> exact ⟨rfl, rfl⟩

theorem runningStep_runs (s : State) (r : Rig) (stamp : HouseFrame) (tag : Tag) (parked notify : Bool) (t : Tracker) :
    SameRuns t (runningStep s r stamp tag parked notify t).t := by
  unfold runningStep
  dsimp only
  split
  · split
    · exact ⟨rfl, rfl⟩
    · split
      · exact searchStep_runs s stamp tag notify { t with slipRun := 0 }
      · exact frozenSearchStep_runs ..
  · split
    · exact freeStep_runs s stamp tag parked _ notify { t with slipRun := 0 }
    · exact frozenStep_runs ..

theorem goodStep_runs (s : State) (r : Rig) (stamp : HouseFrame) (tag : Tag) (parked notify : Bool) (t : Tracker) :
    SameRuns t (goodStep s r stamp tag parked notify t).t := by
  unfold goodStep
  split
  · split
    · exact runningStep_runs ..
    · split
      · exact ⟨rfl, rfl⟩
      · exact runningStep_runs ..
    · exact ⟨rfl, rfl⟩
    · exact ⟨rfl, rfl⟩
  · exact ⟨rfl, rfl⟩

/-! ## The report of a cleared STALL -/

/-- The step, showing a change that the report has made before it. -/
def TrackerStep.noted (x : TrackerStep) : TrackerStep := { x with notify := true }

theorem searchStep_noted (s : State) (stamp : HouseFrame) (tag : Tag) (t : Tracker) :
    searchStep s stamp tag true t = (searchStep s stamp tag false t).noted := by
  cases search : lineupSearch s stamp tag with
  | some d => rw [searchStep_found search, searchStep_found search, TrackerStep.noted]
  | none =>
    rw [searchStep_none search, searchStep_none search]
    split <;> rfl

theorem matchStep_noted (t : Tracker) : matchStep true t = (matchStep false t).noted := by
  unfold matchStep
  split
  · split <;> rfl
  · rfl
  · rfl

theorem slipStep_noted (s : State) (c : Check) (x : TrackerStep) : slipStep s c x.noted = (slipStep s c x).noted := by
  unfold slipStep TrackerStep.noted
  dsimp only
  split <;> rfl

theorem freeStep_noted (s : State) (stamp : HouseFrame) (tag : Tag) (parked : Bool) (c : Check) (t : Tracker) :
    freeStep s stamp tag parked c true t = (freeStep s stamp tag parked c false t).noted := by
  rcases Check.cases_free t.tap c with rfl | ⟨e, rfl, small⟩ | lost
  · exact matchStep_noted t
  · rw [freeStep_corrected small, freeStep_corrected small, TrackerStep.noted]
  · rw [freeStep_lost lost, freeStep_lost lost]
    split
    · rfl
    · cases search : lineupSearch s stamp tag with
      | some d => rw [searchStep_found search, TrackerStep.noted]
      | none =>
        rw [searchStep_none search]
        split <;> rfl

theorem frozenStep_noted (s : State) (c : Check) (t : Tracker) :
    frozenStep s c true t = (frozenStep s c false t).noted := by
  by_cases found : c = .match
  · rw [found]
    exact matchStep_noted { t with slipRun := 0 }
  · rw [frozenStep_other found, frozenStep_other found]
    exact slipStep_noted s c ⟨t.breakMatches, false, false, none, false⟩

theorem frozenSearchStep_noted (s : State) (c : Check) (t : Tracker) :
    frozenSearchStep s c true t = (frozenSearchStep s c false t).noted := by
  by_cases found : c = .match
  · rw [found]
    rfl
  · rw [frozenSearchStep_other found, frozenSearchStep_other found, ← slipStep_noted]
    congr 1
    split <;> rfl

theorem runningStep_noted (s : State) (r : Rig) (stamp : HouseFrame) (tag : Tag) (parked : Bool) (t : Tracker) :
    runningStep s r stamp tag parked true t = (runningStep s r stamp tag parked false t).noted := by
  unfold runningStep
  dsimp only
  split
  · split
    · rfl
    · split
      · exact searchStep_noted ..
      · exact frozenSearchStep_noted ..
  · split
    · exact freeStep_noted ..
    · exact frozenStep_noted ..

/-- A change that the report has already made shows whatever the tag work adds (R89). -/
theorem goodStep_noted (s : State) (r : Rig) (stamp : HouseFrame) (tag : Tag) (parked : Bool) (t : Tracker) :
    goodStep s r stamp tag parked true t = (goodStep s r stamp tag parked false t).noted := by
  unfold goodStep
  split
  · split
    · exact runningStep_noted ..
    · split
      · rfl
      · exact runningStep_noted ..
    · rw [cuedStep, cuedStep, Bool.true_or, TrackerStep.noted]
    · rfl
  · rfl

theorem goodCount_clears {t : Tracker} (run : t.goodRun = 31) (held : t.causes.stall = true) :
    goodCount t = (clearCause .stall { t with goodRun := 32, badRun := 0 }, true) := by
  refine (if_pos ⟨by rw [run]; rfl, held⟩).trans ?_
  rw [run]
  rfl

theorem badStep_other {t : Tracker} (h : t.badRun ≠ 2 ∨ t.causes.stall = true) : badStep t =
    ⟨{ t with
      matchCount := if t.st = .settling then 0 else t.matchCount, badRun := min (t.badRun + 1) 3, goodRun := 0 },
      false, false, none, false⟩ := by
  have few : ¬(t.badRun + 1 = 3 ∧ t.causes.stall = false) := by
    rintro ⟨run, held⟩
    rcases h with h | h
    · omega
    · rw [h] at held
      cases held
  refine (if_neg few).trans ?_
  rw [Tracker.breakMatches_eq]
  rfl

theorem reportStep_bad {v : Verdict} (h : ∀ tag parked, v ≠ .good tag parked) (s : State) (r : Rig) (stamp : HouseFrame)
    (t : Tracker) : reportStep s r stamp v t = badStep t := by
  cases v with
  | good tag parked => exact absurd rfl (h tag parked)
  | _ => rfl

theorem cuedMatch_iff {s : State} {p : Pos} {e : SegmentEntry} (house : s.tr.house = some p)
    (entry : s.setList[p.index]? = some e) (tag : Tag) :
    cuedMatch s tag = true ↔ tag.code = e.code ∧ tag.offset = p.offset * 32 ∧ tag.pass = 0 := by
  rw [cuedMatch, house, (houseEntry_of house).trans entry]
  simp [and_assoc]

/-- Settles O47. -/
theorem blockRuns : Obligations.BlockRuns := by
  refine ⟨fun r stamp tag parked p e s st house entry stall works => ?_, fun s r stamp v t bad good => ?_⟩
  · intro t x
    have plain : x = cuedStep s tag parked false t.counted :=
      (reportStep_plain (.inr stall) ..).trans (goodStep_parked (t := t.counted) works st ..)
    have cued : x.t.cued = (parked && cuedMatch s tag) := by rw [plain]; rfl
    have notify : x.notify = (t.cued != x.t.cued) := by rw [plain]; rfl
    refine ⟨?_, ?_, ?_⟩
    · rw [cued, Bool.and_eq_true, cuedMatch_iff house entry]
    · rw [notify, bne_iff_ne]
      exact ne_comm
    · rw [plain]
      rfl
  · intro x
    refine ⟨fun notGood => ?_, ?_⟩
    · have plain : x = badStep t := reportStep_bad notGood ..
      obtain ⟨badRun, goodRun⟩ := badStep_runs t
      rw [plain]
      refine ⟨badRun, goodRun, ?_, fun run held => ?_, fun other => ?_⟩
      · by_cases third : t.badRun = 2 ∧ t.causes.stall = false
        · rw [badStep_stall third.1 third.2]
          exact t.stalled_shown.2.1
        · rw [badStep_other (by
            rw [not_and_or, Bool.not_eq_false] at third
            exact third)]
      · rw [badStep_stall run held]
        obtain ⟨failed, -, causes⟩ := t.stalled_shown
        refine ⟨rfl, failed, by rw [causes], fun unfailed => ?_⟩
        rw [Tracker.stalled, if_neg unfailed]
      · rw [badStep_other other]
        exact ⟨rfl, rfl, rfl⟩
    · rintro tag parked rfl
      have counted : SameRuns (goodCount t).1 x.t := goodStep_runs ..
      have runs : (goodCount t).1.badRun = 0 ∧ (goodCount t).1.goodRun = min (t.goodRun + 1) 32 := by
        unfold goodCount
        dsimp only
        split
        · obtain ⟨-, e⟩ | ⟨-, e⟩ := clearCause_cases .stall { t with goodRun := min (t.goodRun + 1) Config.clearRun, badRun := 0 } <;>
            rw [e] <;> exact ⟨rfl, rfl⟩
        · exact ⟨rfl, rfl⟩
      refine ⟨counted.1.trans runs.1, counted.2.trans runs.2, fun run held => ?_, fun run failed => ?_⟩
      · intro kept freed y
        have cleared := goodCount_clears run held
        have taken : x = goodStep s r stamp tag parked true (clearCause .stall { t with goodRun := 32, badRun := 0 }) := by
          change goodStep s r stamp tag parked (goodCount t).2 (goodCount t).1 = _
          rw [cleared]
        have left (slip : t.causes.slip = false) (beat : t.causes.beat = false) :
            clearCause .stall { t with goodRun := 32, badRun := 0 } = freed := by
          obtain ⟨-, e⟩ | ⟨more, -⟩ := clearCause_cases .stall { t with goodRun := 32, badRun := 0 }
          · exact e
          · simp [Causes.isEmpty, Causes.remove, slip, beat] at more
        have stays (other : t.causes.slip = true ∨ t.causes.beat = true) :
            clearCause .stall { t with goodRun := 32, badRun := 0 } = kept := by
          obtain ⟨none_, -⟩ | ⟨-, e⟩ := clearCause_cases .stall { t with goodRun := 32, badRun := 0 }
          · rcases other with h | h <;> simp [Causes.isEmpty, Causes.remove, h] at none_
          · exact e
        have again : y = goodStep s r stamp tag parked false freed := reportStep_plain (t := freed) (.inr rfl) ..
        have works : freed.st.Works := .inl rfl
        have alone (slip : t.causes.slip = false) (beat : t.causes.beat = false) : x = { y with notify := true } := by
          rw [taken, left slip beat, again]
          exact goodStep_noted ..
        refine ⟨?_, fun failed other => ?_, fun slip beat => ⟨alone slip beat, fun st => ?_, fun st unparked free => ?_,
          fun st unparked air found => ?_⟩⟩
        · rw [taken, goodStep_noted, TrackerStep.noted]
        · rw [taken, stays other, goodStep_rests (t := kept) (by
            intro w
            rcases w with w | w | w | w <;> cases failed.symm.trans w)]
          exact ⟨rfl, rfl, rfl, rfl⟩
        · rw [alone slip beat, again, goodStep_stopped works st]
        · subst unparked
          rw [alone slip beat, again, goodStep_running works st, runningStep_search (t := freed) rfl free]
          exact ⟨fun d found => by rw [searchStep_found found]; exact ⟨rfl, rfl⟩,
            fun none_ => by rw [searchStep_none none_]; split <;> exact ⟨rfl, rfl⟩⟩
        · subst unparked
          rw [alone slip beat, again, goodStep_running works (.inr st),
            runningStep_frozenSearch (t := freed) rfl (tapFree_air st air)]
          have found' : tagCheck s freed.tap stamp tag = .match := found
          rw [found']
          exact ⟨rfl, rfl⟩
      · have plain : x = ⟨t.counted, false, false, none, false⟩ :=
          (reportStep_plain (.inl run) ..).trans (goodStep_rests (t := t.counted) (by
            intro w
            rcases w with w | w | w | w <;> cases failed.symm.trans w) ..)
        rw [plain]
        exact ⟨failed, rfl⟩

end Sys2Proof.Machine

end

section
/-! SUPPORT. The record of a rig whose fault spoils the takes that aim at it: unless the arbiter opens a service meanwhile,
which then stands in service, the record stays (R99, R142, R143). -/

namespace Sys2Proof.Machine

/-- The tracker is not READY, so that no service chooses its rig (R113). -/
def Tracker.Unready (t : Tracker) : Prop := t.st ≠ .ready

/-- A level is in service that no spoil of a take aimed at the rig ends. -/
def Busy (r : Rig) (s : State) : Prop :=
  ∃ x ∈ s.arb.inService, ∀ t, findTake s.sw.takes x.2 = some t → t.target ≠ .rig r

/-- The rig's tracker is not READY, and has this record unless a service has been opened. -/
structure Held (r : Rig) (u : Tracker) (s : State) : Prop where
  st : (s.tracker r).Unready
  record : s.tracker r = u ∨ Busy r s

/-! ## The table -/

theorem findTake_insertTake (t : Take) (ts : List Take) : findTake (insertTake t ts) t.num = some t := by
  induction ts with
  | nil => exact List.find?_cons_of_pos (beq_self_eq_true _)
  | cons u us ih =>
    unfold insertTake
    split
    · exact List.find?_cons_of_pos (beq_self_eq_true _)
    · rw [findTake, List.find?_cons_of_neg]
      · exact ih
      · rw [beq_iff_eq]
        omega

/-- A take gone from the table is found no more, and every other is as before. -/
theorem findTake_removed {ts : List Take} {n k : Nat} :
    findTake (ts.filter fun t => !(t.num == k)) n = if n = k then none else findTake ts n := by
  unfold findTake
  rw [List.find?_filter]
  split
  · rename_i e
    subst e
    refine List.find?_eq_none.2 fun t _ => ?_
    cases t.num == n <;> simp
  · rename_i ne
    congr 1
    funext t
    by_cases e : t.num = n
    · simp [e, ne]
    · simp [e]

theorem findTake_map {ts : List Take} {f : Take → Take} (h : ∀ t, (f t).num = t.num) (n : Nat) :
    findTake (ts.map f) n = (findTake ts n).map f := by
  unfold findTake
  rw [List.find?_map]
  congr 2
  funext t
  exact congrArg (· == n) (h t)

/-- The takes closed as superseded leave the target of the take found under a number. -/
theorem closeSuperseded_target {n m : Nat} {target : Source} {s : State} (t : Take)
    (h : ∀ x, findTake s.sw.takes m = some x → x.target = target) :
    ∀ x, findTake (closeSuperseded n s t).sw.takes m = some x → x.target = target := by
  intro x hx
  have kept (u : Take) : (if u.num = n then { u with levels := levelUnion u.levels t.levels } else u : Take).num = u.num ∧
      (if u.num = n then { u with levels := levelUnion u.levels t.levels } else u : Take).target = u.target := by
    split <;> exact ⟨rfl, rfl⟩
  change findTake ((s.sw.takes.filter fun u => !(u.num == t.num)).map fun u =>
    if u.num = n then { u with levels := levelUnion u.levels t.levels } else u) m = some x at hx
  rw [findTake_map fun u => (kept u).1] at hx
  obtain ⟨y, hy, rfl⟩ := Option.map_eq_some_iff.1 hx
  rw [findTake_removed] at hy
  split at hy
  · cases hy
  · exact (kept y).2.trans (h y hy)

/-- The take found under the number of an opening has the opening's target. -/
theorem openTake_target (o : OpenOrder) (s : State) :
    ∀ x, findTake (openTake o s).sw.takes (takeNumber s.sw) = some x → x.target = o.target := by
  have closed : ∀ (ts : List Take) (u : State),
      (∀ x, findTake u.sw.takes (takeNumber s.sw) = some x → x.target = o.target) →
      ∀ x, findTake (ts.foldl (closeSuperseded (takeNumber s.sw)) u).sw.takes (takeNumber s.sw) = some x →
        x.target = o.target := fun ts u hu =>
    List.foldlRecOn (motive := fun u : State => ∀ x, findTake u.sw.takes (takeNumber s.sw) = some x → x.target = o.target)
      _ _ hu fun _ hu t _ => closeSuperseded_target t hu
  rw [openTake_eq]
  refine closed _ _ fun x hx => ?_
  change findTake (insertTake (openedTake o s) _) (openedTake o s).num = some x at hx
  rw [findTake_insertTake] at hx
  rw [← Option.some.inj hx]
  rfl

/-! ## Loss reports -/

theorem clearCause_unready {t : Tracker} (h : t.Unready) (d : Detection) : (clearCause d t).Unready := by
  obtain ⟨-, e⟩ | ⟨-, e⟩ := clearCause_cases d t <;> rw [e]
  · nofun
  · exact h

theorem slipClear_unready {r : Rig} {s : State} (h : (s.tracker r).Unready) (x : Rig) :
    ((slipClear x s).tracker r).Unready := by
  unfold slipClear
  split
  · change ((s.setTracker x (clearCause .slip (s.tracker x))).tracker r).Unready
    by_cases e : r = x
    · subst e
      rw [State.setTracker_tracker_self]
      exact clearCause_unready h _
    · rw [State.setTracker_tracker_other _ _ e]
      exact h
  · exact h

theorem lossReports_unready {r : Rig} {s : State} (h : (s.tracker r).Unready) (before : List Group) :
    ((lossReports before s).tracker r).Unready := by
  refine List.foldlRecOn (motive := fun u : State => (u.tracker r).Unready) _ _ h fun u hu x _ => ?_
  rw [lossReport_tracker]
  split
  · exact slipClear_unready hu x
  · exact hu

theorem openTake_unready {r : Rig} {s : State} (h : (s.tracker r).Unready) (o : OpenOrder) :
    ((openTake o s).tracker r).Unready := by
  have superseded : ∀ (ts : List Take) (u : State), (u.tracker r).Unready →
      ((ts.foldl (supersedeTake (o.members.map (·.1)) (takeNumber s.sw)) u).tracker r).Unready := fun ts u hu =>
    List.foldlRecOn (motive := fun u : State => (u.tracker r).Unready) _ _ hu fun u hu t _ => by
      rw [State.tracker, supersedeTake_trackers]
      exact hu
  have closed : ∀ (ts : List Take) (u : State), (u.tracker r).Unready →
      ((ts.foldl (closeSuperseded (takeNumber s.sw)) u).tracker r).Unready := fun ts u hu =>
    List.foldlRecOn (motive := fun u : State => (u.tracker r).Unready) _ _ hu fun _ hu _ _ => hu
  have before : ((beforeJoin o s).tracker r).Unready := by
    unfold beforeJoin
    apply lossReports_unready
    apply superseded
    exact h
  rw [openTake_eq]
  apply closed
  exact before

namespace Held

variable {r : Rig} {u : Tracker} {s t : State}

theorem of_eq (h : Held r u s) (trackers : t.trackers = s.trackers) (inService : t.arb.inService = s.arb.inService)
    (takes : t.sw.takes = s.sw.takes) : Held r u t where
  st := by
    rw [State.tracker, trackers]
    exact h.st
  record := by
    unfold Busy
    rw [State.tracker, trackers, inService, takes]
    exact h.record

theorem foldl {α : Type} {f : State → α → State} (k : ∀ s x, Held r u s → Held r u (f s x)) :
    ∀ (l : List α) {s : State}, Held r u s → Held r u (l.foldl f s)
  | [], _, h => h
  | x :: l, s, h => foldl k l (k s x h)

theorem raise (h : Held r u s) (b : NoticeBody) : Held r u (raise b s) := h.of_eq rfl rfl rfl

theorem onRequests (h : Held r u s) (f : List Request → List Request) : Held r u (s.onRequests f) := h.of_eq rfl rfl rfl

theorem write (h : Held r u s) (gs : List Group) : Held r u { s with groups := gs } := h.of_eq rfl rfl rfl

/-- A service whose target is another source stands in service. -/
theorem openService (h : Held r u s) {o : OpenOrder} (target : o.target ≠ .rig r) : Held r u (openService o s) where
  st := openTake_unready h.st o
  record := .inr ⟨(o.level, takeNumber s.sw), mem_insertLevel.2 (.inl rfl), fun x hx => by
    rw [openTake_target o s x hx]
    exact target⟩

theorem chosen (h : Held r u s) {f : Option Rig} {dropped : List Rig} {x : Rig} (k : chooseTarget s f dropped = some x) :
    Source.rig x ≠ .rig r := fun e => by
  have ready := chooseTarget_ready k
  rw [Source.rig.inj e] at ready
  exact h.st ready

theorem serviceDetection (h : Held r u s) (q : Request) : Held r u (serviceDetection q s).1 := by
  unfold Machine.serviceDetection
  dsimp only
  split
  · exact (h.openService (h.chosen ‹_›)).onRequests _
  · split
    · exact ((h.raise _).openService (by nofun)).onRequests _
    · exact ((h.write _).raise _).onRequests _

theorem serviceRecover (h : Held r u s) (q : Request) : Held r u (serviceRecover q s).1 := by
  unfold Machine.serviceRecover
  dsimp only
  split
  · exact h.raise _
  · split
    · exact h.write _
    · exact (h.write _).openService (h.chosen ‹_›)

theorem service (h : Held r u s) (q : Request) : Held r u (service q s).1 := by
  unfold Machine.service
  split
  · exact h.serviceRecover q
  · exact h.serviceDetection q

theorem serviceLoop : ∀ (n : Nat) {s : State}, Held r u s → Held r u (serviceLoop n s)
  | 0, _, h => h
  | n + 1, s, h => by
    unfold Machine.serviceLoop
    dsimp only
    split
    · exact h.onRequests _
    · rename_i q _
      have served := ((h.onRequests fun qs => qs.filter fun q => !stale s q).onRequests fun qs => qs.filter fun p => !(p == q)).service q
      split
      · exact served
      · exact serviceLoop n served

theorem examine (h : Held r u s) : Held r u (examine s) := by
  unfold Machine.examine
  split
  · exact serviceLoop _ h
  · exact h.onRequests _

theorem request (h : Held r u s) (q : Request) : Held r u (request q s) := by
  refine examine ?_
  split
  · exact h
  · exact h.onRequests _

theorem renewOne (h : Held r u s) (x : Rig) (d : Detection) : Held r u (renewOne x d s) := by
  unfold Machine.renewOne
  split
  · exact (h.raise _).request _
  · exact h

theorem renew (h : Held r u s) (x : Rig) : Held r u (renew s x) := by
  unfold Machine.renew
  split
  · refine foldl (fun s d h => ?_) _ h
    unfold renewCause
    split
    · exact h.renewOne x d
    · exact h
  · split
    · exact h.renewOne x _
    · exact h
  · exact h

/-- The completions of a take aimed at the rig take no group from it. -/
theorem completed_tracker {k : Take} (target : k.target = .rig r) (ms : List Member) (s : State) :
    (Machine.writeGroups (completeGroups k ms) s).tracker r = s.tracker r := by
  rw [writeGroups_tracker]
  refine if_neg fun ⟨_, ⟨g, hg, on⟩, off⟩ => ?_
  refine off _ (List.mem_map_of_mem hg) ?_
  split
  · exact target
  · exact on

/-- A take aimed at the rig closes. -/
theorem closeTake (h : Held r u s) {n : Nat} {k : Take} (found : findTake s.sw.takes n = some k) (target : k.target = .rig r)
    (notice : Take → State → NoticeBody) : Held r u (closeTake notice k s) := by
  have num := findTake_num found
  have tracker := completed_tracker target k.completing s
  have sw := writeGroups_sw (completeGroups k k.completing) s
  have arb : (Machine.writeGroups (completeGroups k k.completing) s).arb.inService = s.arb.inService := by rw [writeGroups_arb]
  unfold Machine.closeTake
  dsimp only
  generalize Machine.writeGroups (completeGroups k k.completing) s = v at *
  refine examine ⟨?_, ?_⟩
  · change (v.tracker r).Unready
    rw [tracker]
    exact h.st
  · rcases h.record with same | ⟨x, hx, other⟩
    · exact .inl (tracker.trans same)
    · have ne : x.2 ≠ k.num := fun e => other k (by rw [e, num]; exact found) target
      refine .inr ⟨x, List.mem_filter.2 ⟨by rw [← arb] at hx; exact hx, by simpa using ne⟩, fun t ht => ?_⟩
      change findTake (v.sw.takes.filter fun t => !(t.num == k.num)) x.2 = some t at ht
      rw [findTake_removed, if_neg ne, sw] at ht
      exact other t ht

theorem spoilTake (h : Held r u s) (n : Nat) : Held r u (spoilTake r s n) := by
  unfold Machine.spoilTake
  split
  · split
    · exact foldl (fun _ x h => h.renew x) _ (h.closeTake ‹_› ‹_› _)
    · exact h
  · exact h

theorem targetFault (h : Held r u s) : Held r u (targetFault r s) := foldl (fun _ n h => h.spoilTake n) _ h

end Held

/-- A target's fault that leaves nothing in service leaves the rig's own record. -/
theorem targetFault_tracker {r : Rig} {s : State} (st : (s.tracker r).Unready)
    (idle : (targetFault r s).arb.inService = []) : (targetFault r s).tracker r = s.tracker r := by
  have h : Held r (s.tracker r) s := ⟨st, .inl rfl⟩
  refine h.targetFault.record.resolve_right fun ⟨x, hx, _⟩ => ?_
  rw [idle] at hx
  cases hx

end Sys2Proof.Machine

end

section
/-! SUPPORT. A well-formed Block taken (R49, R51, R53 to R56). -/

namespace Sys2Proof.Machine

/-! ## The audio of a record (R55, R56) -/

theorem samplesOf_length : ∀ (n : Nat) (bs : List Byte), bs.length = 3 * n → (samplesOf bs).length = n
  | 0, bs, h => by rw [List.length_eq_zero_iff.1 h]; rfl
  | n + 1, a :: b :: c :: bs, h => by
    have rest : bs.length = 3 * n := by
      simp only [List.length_cons] at h
      omega
    exact congrArg (· + 1) (samplesOf_length n bs rest)
  | n + 1, [], h => by simp only [List.length_nil] at h; omega
  | n + 1, [_], h => by simp only [List.length_cons, List.length_nil] at h; omega
  | n + 1, [_, _], h => by simp only [List.length_cons, List.length_nil] at h; omega

theorem samplesOf_getD : ∀ (j : Nat) (bs : List Byte), 3 * j + 2 < bs.length → (samplesOf bs).getD j 0 =
    sample3 (bs.getD (3 * j) 0) (bs.getD (3 * j + 1) 0) (bs.getD (3 * j + 2) 0)
  | 0, _ :: _ :: _ :: _, _ => rfl
  | j + 1, a :: b :: c :: bs, h => by
    have rest : 3 * j + 2 < bs.length := by
      simp only [List.length_cons] at h
      omega
    exact samplesOf_getD j bs rest
  | j, [], h => by simp only [List.length_nil] at h; omega
  | j, [_], h => by simp only [List.length_cons, List.length_nil] at h; omega
  | j, [_, _], h => by simp only [List.length_cons, List.length_nil] at h; omega

theorem framesOf_length (n keep k : Nat) (xs : List Int) : (framesOf n keep k xs).length = k := by
  induction k generalizing xs with
  | zero => rfl
  | succ k ih => exact congrArg (· + 1) (ih _)

theorem framesOf_getD {n keep k i : Nat} (h : i < k) (xs : List Int) :
    (framesOf n keep k xs).getD i [] = ((xs.drop (n * i)).take n).take keep := by
  induction k generalizing xs i with
  | zero => omega
  | succ k ih =>
    cases i with
    | zero => rfl
    | succ i =>
      have next := ih (i := i) (by omega) (xs.drop n)
      rw [List.drop_drop, Nat.add_comm n] at next
      exact next

theorem getD_take_take {xs : List Int} {n keep c : Nat} (h : c < keep) (le : keep ≤ n) (i : Nat) :
    (((xs.drop i).take n).take keep).getD c 0 = xs.getD (i + c) 0 := by
  rw [List.getD_eq_getElem?_getD, List.getElem?_take_of_lt h, List.getElem?_take_of_lt (by omega), List.getElem?_drop,
    ← List.getD_eq_getElem?_getD]

/-- The record's sample of a channel in a frame is the message's (R55, R56). -/
theorem audioOf_sample {n i c : Nat} {samples : List Byte} (len : samples.length = 96 * n) (hi : i < 32)
    (hc : c < min n 64) : (((audioOf n samples).frames.getD i []).getD c 0) =
      sample3 (samples.getD (3 * (i * n + c)) 0) (samples.getD (3 * (i * n + c) + 1) 0)
        (samples.getD (3 * (i * n + c) + 2) 0) := by
  have inside : 3 * (i * n + c) + 2 < samples.length := by
    have rows : i * n ≤ 31 * n := Nat.mul_le_mul_right n (by omega)
    omega
  change ((framesOf n (min n 64) 32 (samplesOf samples)).getD i []).getD c 0 = _
  rw [framesOf_getD hi, getD_take_take hc (Nat.min_le_left ..), Nat.mul_comm n i]
  exact samplesOf_getD _ _ inside

theorem blockHead_samples {bytes samples : List Byte} {h : BlockHead} (k : blockHead bytes = some (h, samples)) :
    samples.length = 96 * h.channels := by
  unfold blockHead at k
  split at k
  · split at k
    · rename_i good
      obtain ⟨-, -, length⟩ := good
      cases k
      exact length
    · cases k
  · cases k

/-! ## Timing and link (R49, R51) -/

section

variable {p : Port} {now e : HouseFrame}

theorem stampOf_down (h : p.link = .down) : stampOf p now = (now, .first) := by
  rw [stampOf, h]

theorem stampOf_up (h : p.link ≠ .down) (expected : p.expected = some e) : stampOf p now =
    if frameDiff now e < -8 then (now, .early) else (e, .inPlace) := by
  have shape : stampOf p now = if -8 ≤ frameDiff now e then (e, .inPlace) else (now, .early) := by
    unfold stampOf
    rw [expected]
    cases link : p.link with
    | down => exact absurd link h
    | acquiring => rfl
    | locked => rfl
  rw [shape]
  by_cases early : frameDiff now e < -8
  · rw [if_pos early, if_neg (by omega)]
  · rw [if_neg early, if_pos (by omega)]

theorem acquireStep_first (h : p.link = .down) (t : Timing) : acquireStep p t = (.acquiring, 1) := by
  unfold acquireStep
  rw [h]

theorem acquireStep_inPlace (h : p.link = .acquiring) : acquireStep p .inPlace =
    if 7 ≤ p.acquire then (.locked, 8) else (.acquiring, p.acquire + 1) := by
  have shape : acquireStep p .inPlace = if 8 ≤ p.acquire + 1 then (.locked, 8) else (.acquiring, p.acquire + 1) := by
    unfold acquireStep
    rw [h]
    rfl
  rw [shape]
  exact if_congr (by omega) rfl rfl

theorem acquireStep_early (h : p.link = .acquiring) : acquireStep p .early = (.acquiring, 1) := by
  unfold acquireStep
  rw [h]

theorem acquireStep_locked (h : p.link = .locked) (t : Timing) : acquireStep p t = (.locked, p.acquire) := by
  unfold acquireStep
  rw [h]

/-- Only an ACQUIRING link comes to be LOCKED by a Block. -/
theorem acquireStep_locks {t : Timing} (h : (acquireStep p t).1 = .locked) (ne : (acquireStep p t).1 ≠ p.link) :
    p.link = .acquiring := by
  cases link : p.link with
  | down =>
    rw [acquireStep_first link] at h
    cases h
  | acquiring => rfl
  | locked =>
    rw [link] at ne
    exact absurd h ne

end

/-! ## The works of a Block in their order (log entry 6) -/

theorem takeBlock_placed {r : Rig} {s : State} (fresh : ∀ a, (s.port r).lastArrival = some a → frameDiff s.now a ≤ 128)
    (current : (s.port r).link ≠ .down → ∃ e, (s.port r).expected = some e ∧ frameDiff s.now e ≤ 8)
    (h : BlockHead) (samples : List Byte) : takeBlock r h samples s = placeBlock r h samples s := by
  have timely : takeBlock r h samples s = placeBlock r h samples (expireLate r 8 s) := by
    unfold takeBlock
    dsimp only
    cases last : (s.port r).lastArrival with
    | none => rfl
    | some a =>
      exact congrArg (fun u => placeBlock r h samples (expireLate r 8 u))
        (if_neg fun k => Int.not_lt.2 (fresh a last) (of_decide_eq_true k))
  have none_ : expired s r = none := by
    by_cases down : (s.port r).link = .down
    · exact expired_down down
    · obtain ⟨e, next, near⟩ := current down
      exact (expired_up down next).trans (if_neg (by omega))
  have late : expireLate r 8 s = s := by rw [expireLate, none_]
  rw [timely, late]

/-- The port after a Block. -/
def State.blockPort (r : Rig) (h : BlockHead) (samples : List Byte) (s : State) : Port :=
  (s.port r).takeBlock h samples s.now (stampOf (s.port r) s.now).1 (stampOf (s.port r) s.now).2

/-- The state after a Block's work on its port and link, with the RIG_STATE of a change (R49, R63, R66). -/
def State.linkTold (r : Rig) (q : Port) (s : State) : State :=
  if q.link = (s.port r).link then s.setPort r q
  else if q.link = .locked then linkLocked r (s.setPort r q)
  else raiseRigState r false (s.setPort r q)

/-- The state after the CUE flag of a Block's tag (R42, R53). -/
def State.cueTold (r : Rig) (h : BlockHead) (s : State) : State := if h.tagOk then rigCue r h.cue s else s

theorem placeBlock_eq (r : Rig) (h : BlockHead) (samples : List Byte) (s : State) : placeBlock r h samples s =
    if (s.blockPort r h samples).link = .locked then
      blockReport r (stampOf (s.port r) s.now).1 (verdictOf h (stampOf (s.port r) s.now).2 (s.port r).prevTag)
        ((s.linkTold r (s.blockPort r h samples)).cueTold r h)
    else (s.linkTold r (s.blockPort r h samples)).cueTold r h := rfl

theorem linkTold_ports (r : Rig) (q : Port) (s : State) : (s.linkTold r q).ports = (s.setPort r q).ports := by
  unfold State.linkTold
  split
  · rfl
  · split <;> rfl

theorem Runs.ports {s t : State} (h : Runs s t) : t.ports = s.ports := by
  unfold Runs at h
  rw [h]

theorem cueTold_ports (r : Rig) (h : BlockHead) (s : State) : (s.cueTold r h).ports = s.ports := by
  unfold State.cueTold rigCue
  split
  · split
    · rfl
    · dsimp only
      split
      · exact (Runs.press (.rig r) (s.setRigCue r (some h.cue))).ports
      · rfl
  · rfl

theorem placeBlock_port (r x : Rig) (h : BlockHead) (samples : List Byte) (s : State) :
    (placeBlock r h samples s).port x = (s.setPort r (s.blockPort r h samples)).port x := by
  have told : ((s.linkTold r (s.blockPort r h samples)).cueTold r h).port x =
      (s.setPort r (s.blockPort r h samples)).port x := by
    rw [State.port, cueTold_ports, linkTold_ports]
    rfl
  rw [placeBlock_eq]
  split
  · rw [blockReport_port, told]
  · exact told

end Sys2Proof.Machine

end

section
/-! SUPPORT. What a Block's report does beyond the port (R42, R49, R54, R63, R66, R103, R106). -/

namespace Sys2Proof.Machine

/-! ## The link and the CUE flag -/

/-- The tracker's record after a Block's work on the link: a link that has just locked takes an OFFLINE tracker to SEARCHING. -/
def Tracker.told (before after : Link) (t : Tracker) : Tracker :=
  if before = .acquiring ∧ after = .locked ∧ t.st = .offline then
    { t with st := .searching, matchCount := 0, notFound := 0, balance := 0, timer := some 0, beatDue := false }
  else t

theorem setTracker_same (s : State) (r : Rig) : s.setTracker r (s.tracker r) = s :=
  congrArg (fun x => { s with trackers := x }) (PerRig.set_get_self s.trackers r)

theorem linkTold_eq {r : Rig} {q : Port} {s : State} (locks : q.link = .locked → q.link ≠ (s.port r).link →
    (s.port r).link = .acquiring) : s.linkTold r q =
      let told := (s.tracker r).told (s.port r).link q.link
      let placed := (s.setPort r q).setTracker r told
      if q.link = (s.port r).link then placed
      else raise (.rigState r q.link told.st told.cued told.tap told.causes false) placed := by
  have port : (s.setPort r q).port r = q := State.setPort_port_self ..
  unfold State.linkTold
  dsimp only
  by_cases same : q.link = (s.port r).link
  · have old : (s.tracker r).told (s.port r).link q.link = s.tracker r := if_neg fun ⟨acquiring, locked, _⟩ => by
      rw [same, acquiring] at locked
      cases locked
    rw [if_pos same, if_pos same, old]
    exact (setTracker_same (s.setPort r q) r).symm
  · rw [if_neg same, if_neg same]
    by_cases locked : q.link = .locked
    · have acquiring := locks locked same
      have told : (s.tracker r).told (s.port r).link q.link = (s.tracker r).locked := by
        unfold Tracker.told Tracker.locked
        exact if_congr (by simp [acquiring, locked]) rfl rfl
      rw [if_pos locked, linkLocked, raiseRigState, State.setTracker_tracker_self, told]
      exact congrArg (fun p : Port => raise (.rigState r p.link (s.tracker r).locked.st (s.tracker r).locked.cued
        (s.tracker r).locked.tap (s.tracker r).locked.causes false) ((s.setPort r q).setTracker r (s.tracker r).locked)) port
    · have old : (s.tracker r).told (s.port r).link q.link = s.tracker r := if_neg fun k => locked k.2.1
      rw [if_neg locked, raiseRigState, port, old]
      exact congrArg (raise _) (setTracker_same (s.setPort r q) r).symm

theorem told_excluded_iff (before after : Link) (t : Tracker) : (t.told before after).st = .excluded ↔ t.st = .excluded := by
  unfold Tracker.told
  split
  · rename_i k
    exact iff_of_false nofun fun e => by
      rw [k.2.2] at e
      cases e
  · rfl

theorem rigCue_eq (r : Rig) (cue : Bool) (s : State) : rigCue r cue s =
    if (s.tracker r).st = .excluded then s.setRigCue r none
    else if cue = true ∧ s.tr.rigCue.get r = some false then press (.rig r) (s.setRigCue r (some cue))
    else s.setRigCue r (some cue) := by
  unfold rigCue
  refine if_congr isExcluded_iff rfl (if_congr ?_ rfl rfl)
  rw [Bool.and_eq_true, beq_iff_eq]

/-! ## The report (R54, R89, R103, R106) -/

/-- A detection of a step has taken the tracker to the detection's state, and makes no arrival in READY. -/
def TrackerStep.Detects (x : TrackerStep) : Prop := ∀ d, x.detection = some d → x.ready = false ∧ x.t.st = d.state

theorem TrackerStep.Detects.none {x : TrackerStep} (h : x.detection = none) : x.Detects := fun d k => by
  rw [h] at k
  cases k

theorem searchStep_detection (s : State) (stamp : HouseFrame) (tag : Tag) (notify : Bool) (t : Tracker) :
    (searchStep s stamp tag notify t).detection = none := by
  unfold searchStep
  split <;> rfl

theorem matchStep_detection (notify : Bool) (t : Tracker) : (matchStep notify t).detection = none := by
  unfold matchStep
  split
  · split <;> rfl
  · rfl
  · rfl

theorem freeStep_detection (s : State) (stamp : HouseFrame) (tag : Tag) (parked : Bool) (c : Check) (notify : Bool)
    (t : Tracker) : (freeStep s stamp tag parked c notify t).detection = none := by
  rcases Check.cases_free t.tap c with rfl | ⟨e, rfl, small⟩ | lost
  · exact matchStep_detection notify t
  · rw [freeStep_corrected small]
  · rw [freeStep_lost lost]
    split
    · rfl
    · exact searchStep_detection ..

theorem slipStep_detects {s : State} {c : Check} {x : TrackerStep} (none_ : x.detection = none) (ready : x.ready = false) :
    (slipStep s c x).Detects := by
  unfold slipStep
  dsimp only
  split
  · intro d h
    cases h
    exact ⟨ready, Tracker.fail_st ..⟩
  · exact .none none_

theorem frozenStep_detects (s : State) (c : Check) (notify : Bool) (t : Tracker) : (frozenStep s c notify t).Detects := by
  by_cases found : c = .match
  · rw [found]
    exact .none (matchStep_detection ..)
  · rw [frozenStep_other found]
    exact slipStep_detects rfl rfl

theorem frozenSearchStep_detects (s : State) (c : Check) (notify : Bool) (t : Tracker) :
    (frozenSearchStep s c notify t).Detects := by
  by_cases found : c = .match
  · rw [found]
    exact .none rfl
  · rw [frozenSearchStep_other found]
    split <;> exact slipStep_detects rfl rfl

theorem runningStep_detects (s : State) (r : Rig) (stamp : HouseFrame) (tag : Tag) (parked notify : Bool) (t : Tracker) :
    (runningStep s r stamp tag parked notify t).Detects := by
  unfold runningStep
  dsimp only
  split
  · split
    · exact .none rfl
    · split
      · exact .none (searchStep_detection ..)
      · exact frozenSearchStep_detects _ _ _ _
  · split
    · exact .none (freeStep_detection ..)
    · exact frozenStep_detects _ _ _ _

theorem goodStep_detects (s : State) (r : Rig) (stamp : HouseFrame) (tag : Tag) (parked notify : Bool) (t : Tracker) :
    (goodStep s r stamp tag parked notify t).Detects := by
  unfold goodStep
  split
  · split
    · exact runningStep_detects _ _ _ _ _ _ _
    · split
      · exact .none rfl
      · exact runningStep_detects _ _ _ _ _ _ _
    · exact .none rfl
    · exact .none rfl
  · exact .none rfl

theorem reportStep_detects (s : State) (r : Rig) (stamp : HouseFrame) (v : Verdict) (t : Tracker) :
    (reportStep s r stamp v t).Detects := by
  have bad : (badStep t).Detects := by
    unfold badStep
    dsimp only
    split
    · intro d h
      cases h
      exact ⟨rfl, Tracker.fail_st ..⟩
    · exact .none rfl
  cases v with
  | good tag parked => exact goodStep_detects _ _ _ _ _ _ _
  | _ => exact bad

section

variable {r : Rig} {x : TrackerStep} {s : State}

/-- The record of a step, with the RIG_STATE that it calls for. -/
def State.noticed (r : Rig) (x : TrackerStep) (s : State) : State :=
  if x.notify = true then raiseRigState r x.notFound (s.setTracker r x.t) else s.setTracker r x.t

theorem noticed_tracker : (s.noticed r x).tracker r = x.t := by
  unfold State.noticed
  split <;> exact State.setTracker_tracker_self ..

theorem applyStep_plain (none_ : x.detection = none) (ready : x.ready = false) (b : Bool) :
    applyStep r x b s = s.noticed r x := by
  unfold applyStep
  rw [none_, ready]
  rfl

theorem applyStep_ready (none_ : x.detection = none) (ready : x.ready = true) (b : Bool) :
    applyStep r x b s = readyArrival r (s.noticed r x) := by
  unfold applyStep
  rw [none_, ready]
  rfl

theorem applyStep_detect {d : Detection} (some_ : x.detection = some d) (ready : x.ready = false) (b : Bool) :
    applyStep r x b s = detect r d b (s.noticed r x) := by
  unfold applyStep
  rw [some_, ready]
  rfl

end

/-- The target's fault that comes before a detection's decision (R106, R143). -/
def State.judged (r : Rig) (s : State) : State := if isTarget s.sw.takes r then targetFault r s else s

/-- The FAULT of a detection (R106). -/
def State.faulted (r : Rig) (d : Detection) (s : State) : State :=
  raise (.fault r d false d.level .detection (isTarget s.sw.takes r) (decide103 r d (s.judged r)) ((s.judged r).tracker r).causes)
    (s.judged r)

theorem detect_refused {r : Rig} {d : Detection} {s : State} (h : decide103 r d (s.judged r) ≠ .requested) :
    detect r d false s = s.faulted r d := if_neg h

/-- A requested detection that leaves nothing open is served at once, whatever its target fault closed. -/
theorem detect_judged {r : Rig} {d : Detection} {s : State} (h : decide103 r d (s.judged r) = .requested)
    (quiet : (s.faulted r d).Quiet) (st : (s.tracker r).st = d.state) :
    detect r d false s = State.served ((s.faulted r d).requestOf r d) (s.faulted r d) := by
  have unready : (s.tracker r).Unready := fun e => by
    rw [st] at e
    cases d <;> cases e
  have record : (s.judged r).tracker r = s.tracker r := by
    have idle : (s.judged r).arb.inService = [] := quiet.inService
    unfold State.judged at idle ⊢
    split
    · rename_i target
      rw [if_pos target] at idle
      exact targetFault_tracker unready idle
    · rfl
  refine (if_pos h).trans ?_
  change request ⟨d.level, r, d.cause, (s.faulted r d).block⟩ (s.faulted r d) = _
  exact request_served quiet h ((congrArg (·.st) record).trans st)

/-! ## The verdict (R54) -/

theorem verdictOf_eq (h : BlockHead) (t : Timing) (prev : Option Tag) : verdictOf h t prev =
    if t = .early then .early
    else if h.tagOk = false then .badTag
    else if h.offset % 32 ≠ 0 then .misaligned
    else if h.flags.getLsbD 0 = false ∧ prev = some ⟨h.code, h.offset, h.pass⟩ then .repeated
    else .good ⟨h.code, h.offset, h.pass⟩ (h.flags.getLsbD 0) := by
  unfold verdictOf
  refine if_congr Iff.rfl rfl (if_congr (by simp) rfl (if_congr Iff.rfl rfl (if_congr ?_ rfl rfl)))
  rw [Bool.and_eq_true, Bool.not_eq_true', beq_iff_eq]
  rfl

/-- Settles O42. -/
theorem blockTaken : Obligations.BlockTaken := by
  refine ⟨fun r bytes samples h s on head => ?_, fun r bytes samples h s on head => ?_, fun h t prev => ?_⟩
  · intro p now fresh current early
    have row : exec (.blockMessage r bytes) s = .next (kick (placeBlock r h samples s)) := by
      refine next_event on ?_
      rw [rigMessage, head]
      exact takeBlock_placed fresh current h samples
    have port : (kick (placeBlock r h samples s)).port r = s.blockPort r h samples :=
      (placeBlock_port ..).trans (State.setPort_port_self ..)
    refine ⟨_, (stampOf p now).1, audioOf h.channels samples, row, ?_⟩
    rw [port]
    have len := blockHead_samples head
    have near (up : p.link ≠ .down) (e : HouseFrame) (next : p.expected = some e) : early ↔ frameDiff now e < -8 :=
      ⟨fun k => k.2 e next, fun k => ⟨up, fun x hx => by rw [next] at hx; exact Option.some.inj hx ▸ k⟩⟩
    have late (up : p.link ≠ .down) (k : early) : stampOf p now = (now, .early) := by
      obtain ⟨e, next, -⟩ := current up
      exact (stampOf_up up next).trans (if_pos ((near up e next).1 k))
    have placed (up : p.link ≠ .down) (k : ¬early) : ∃ e, p.expected = some e ∧ stampOf p now = (e, .inPlace) := by
      obtain ⟨e, next, -⟩ := current up
      exact ⟨e, next, (stampOf_up up next).trans (if_neg (mt (near up e next).2 k))⟩
    have link : (s.blockPort r h samples).link = (acquireStep p (stampOf p now).2).1 := rfl
    have acquire : (s.blockPort r h samples).acquire = (acquireStep p (stampOf p now).2).2 := rfl
    rw [link, acquire]
    have up (st : p.link = .acquiring) : p.link ≠ .down := by rw [st]; nofun
    refine ⟨fun k => ?_, fun up k => ?_, rfl, framesOf_length .., fun i c hi hc => audioOf_sample len hi hc, rfl, rfl, rfl,
      rfl, fun down => ?_, fun st k => ?_, fun st k few => ?_, fun st k full => ?_, fun st => ?_, rfl, rfl,
      fun x ne => (placeBlock_port ..).trans (State.setPort_port_other _ _ ne)⟩
    · rcases k with down | k
      · rw [stampOf_down down]
      · rw [late k.1 k]
    · obtain ⟨e, next, stamp⟩ := placed up k
      rw [stamp]
      exact next
    · rw [acquireStep_first down]
      exact ⟨rfl, rfl⟩
    · rw [late (up st) k, acquireStep_early st]
      exact ⟨rfl, rfl⟩
    · obtain ⟨e, -, stamp⟩ := placed (up st) k
      rw [stamp, acquireStep_inPlace st, if_neg (by omega)]
      exact ⟨rfl, rfl⟩
    · obtain ⟨e, -, stamp⟩ := placed (up st) k
      rw [stamp, acquireStep_inPlace st, if_pos full]
      exact ⟨rfl, rfl⟩
    · rw [acquireStep_locked st]
      exact ⟨rfl, rfl⟩
  · intro p old fresh current
    have row : exec (.blockMessage r bytes) s = .next (kick (placeBlock r h samples s)) := by
      refine next_event on ?_
      rw [rigMessage, head]
      exact takeBlock_placed fresh current h samples
    have port : (kick (placeBlock r h samples s)).port r = s.blockPort r h samples :=
      (placeBlock_port ..).trans (State.setPort_port_self ..)
    refine ⟨_, row, ?_⟩
    rw [port]
    intro link told placed linked cue cued taker
    have linked_eq : s.linkTold r (s.blockPort r h samples) = linked := linkTold_eq fun a b => acquireStep_locks a b
    have cued_eq : linked.cueTold r h = cued := by
      have tracker : linked.tracker r = told := by
        have here : placed.tracker r = told := State.setTracker_tracker_self ..
        change (if link = p.link then placed else raise _ placed : State).tracker r = told
        split <;> exact here
      have tr : linked.tr = s.tr := by
        change (if link = p.link then placed else raise _ placed : State).tr = s.tr
        split <;> rfl
      have excluded_iff : (linked.tracker r).st = .excluded ↔ old.st = .excluded := by
        rw [tracker]
        exact told_excluded_iff ..
      unfold State.cueTold
      rw [rigCue_eq, tr]
      cases ok : h.tagOk with
      | false => exact (if_pos ok).symm
      | true =>
        refine (if_congr excluded_iff rfl rfl).trans ?_
        exact (if_neg (by rw [ok]; nofun)).symm
    have work := placeBlock_eq r h samples s
    rw [linked_eq, cued_eq] at work
    refine ⟨fun off => congrArg kick (work.trans ?_), fun locked excluded offline e next => ?_⟩
    · rcases off with unlocked | off
      · exact if_neg unlocked
      · split
        · exact blockReport_offline off _ _
        · rfl
    · intro stamp v x done noticed
      have up : p.link ≠ .down := fun down => by
        have first : link = .acquiring := congrArg Prod.fst (acquireStep_first down (stampOf p s.now).2)
        rw [first] at locked
        cases locked
      have report : placeBlock r h samples s = applyStep r x false cued := by
        have timed : stampOf p s.now = (stamp, if frameDiff s.now e < -8 then .early else .inPlace) := by
          rw [stampOf_up up next]
          change _ = (if frameDiff s.now e < -8 then s.now else e, _)
          split <;> rfl
        refine work.trans ((if_pos locked).trans ((blockReport_online (not_or.2 ⟨excluded, offline⟩) _ _).trans ?_))
        change applyStep r (reportStep cued r (stampOf p s.now).1 (verdictOf h (stampOf p s.now).2 p.prevTag) taker) false cued = _
        rw [timed]
      have noticed_eq : cued.noticed r x = noticed := by
        have here : (cued.port r).link = .locked := by
          rw [← cued_eq, ← linked_eq, State.port, cueTold_ports, linkTold_ports]
          exact (congrArg Port.link (State.setPort_port_self ..)).trans locked
        unfold State.noticed
        rw [raiseRigState, State.setTracker_tracker_self]
        change (if x.notify = true then raise (.rigState r (cued.port r).link _ _ _ _ _) _ else _) = _
        rw [here]
      refine ⟨fun none_ ready => congrArg kick (report.trans ?_), fun none_ ready => congrArg kick (report.trans ?_),
        fun d some_ => ?_⟩
      · rw [applyStep_plain none_ ready, noticed_eq]
      · rw [applyStep_ready none_ ready, noticed_eq]
      · obtain ⟨ready, st⟩ := reportStep_detects cued r stamp v taker d some_
        intro target judged outcome level faulted
        have detected : placeBlock r h samples s = detect r d false noticed := by
          rw [report, applyStep_detect some_ ready, noticed_eq]
        have level_eq : level = d.level := by cases d <;> rfl
        have faulted_eq : noticed.faulted r d = faulted := by
          change raise _ _ = raise (.fault r d false level _ _ _ _) _
          rw [level_eq]
          rfl
        refine ⟨fun advisory => congrArg kick (detected.trans ?_), fun requested quiet => congrArg kick (detected.trans ?_)⟩
        · rw [detect_refused advisory, faulted_eq]
        · rw [← faulted_eq] at quiet ⊢
          exact detect_judged requested quiet ((congrArg (·.st) (noticed_eq ▸ noticed_tracker)).trans st)
  · intro tag
    rw [verdictOf_eq]
    refine ⟨fun e => if_pos e, fun e bad => (if_neg e).trans (if_pos bad), fun e ok off => ?_, fun e ok on unparked same => ?_,
      fun e ok on k => ?_⟩
    · rw [if_neg e, if_neg (by rw [ok]; nofun), if_pos off]
    · rw [if_neg e, if_neg (by rw [ok]; nofun), if_neg (not_not.2 on), if_pos ⟨unparked, same⟩]
    · rw [if_neg e, if_neg (by rw [ok]; nofun), if_neg (not_not.2 on), if_neg]
      rintro ⟨unparked, same⟩
      rcases k with k | k
      · rw [unparked] at k
        cases k
      · exact k same

end Sys2Proof.Machine

end

section
/-! SUPPORT. The start of a take (R135, R136). -/

namespace Sys2Proof.Machine

/-! ## The table -/

theorem takeNums_inj {ts : List Take} (nodup : (ts.map (·.num)).Nodup) {x y : Take} (hx : x ∈ ts) (hy : y ∈ ts)
    (h : x.num = y.num) : x = y := List.inj_on_of_nodup_map nodup hx hy h

theorem findTake_of_mem {ts : List Take} (nodup : (ts.map (·.num)).Nodup) {t : Take} (h : t ∈ ts) :
    findTake ts t.num = some t :=
  find_only h (beq_self_eq_true _) fun _ hy k => takeNums_inj nodup hy h (beq_iff_eq.1 k)

/-- One take's record changed, in a table whose numbers are distinct. -/
theorem updateTake_eq {s : State} (nodup : (s.sw.takes.map (·.num)).Nodup) {t : Take} (h : t ∈ s.sw.takes) (f : Take → Take) :
    updateTake t.num f s = { s with sw := { s.sw with takes := s.sw.takes.map fun x => if x.num = t.num then f t else x } } := by
  have same : (s.sw.takes.map fun x => if x.num = t.num then f x else x) =
      s.sw.takes.map fun x => if x.num = t.num then f t else x :=
    List.map_congr_left fun x hx => by
      split
      · rw [takeNums_inj nodup hx h ‹_›]
      · rfl
  exact congrArg (fun ts => { s with sw := { s.sw with takes := ts } }) same

/-! ## One start -/

theorem Take.startDue_iff {t : Take} : t.startDue = true ↔ t.st = .waiting ∧ t.due = some .start := by
  rw [Take.startDue, Bool.and_eq_true, beq_iff_eq, beq_iff_eq]

section

variable {t : Take} {s : State} (nodup : (s.sw.takes.map (·.num)).Nodup) (mem : t ∈ s.sw.takes)

include nodup mem

theorem takeStart_notDue (h : t.startDue = false) : takeStart t.num s = s := by
  rw [takeStart, findTake_of_mem nodup mem]
  exact if_neg (by rw [h]; nofun)

theorem takeStart_due (h : t.startDue = true) : takeStart t.num s = (dueStarts s.sw.takes t.num).foldl startOne s := by
  rw [takeStart, findTake_of_mem nodup mem]
  exact if_pos h

theorem startOne_due (h : t.startDue = true) : startOne s t.num = startTake t s := by
  rw [startOne, findTake_of_mem nodup mem]
  exact if_pos h

/-- The first start that is due is carried out alone (R136). -/
theorem takeStart_first (h : t.startDue = true) (first : ∀ x ∈ s.sw.takes, x.num < t.num → x.startDue = false) :
    takeStart t.num s = startTake t s := by
  rw [takeStart_due nodup mem h, dueStarts_single nodup mem h first]
  exact startOne_due nodup mem h

end

/-- A member at its take's start (R135). -/
theorem Member.start_eq (m : Member) :
    m.start = if m.stage = .outgoing then { m with stage := if m.mode = .cut then .incoming else .ramp } else m := by
  unfold Member.start
  cases m.stage <;> cases m.mode <;> rfl

/-- The record of a take that starts to blend on an engine (R135). -/
def Take.startBlend (e : Option Bool) (t : Take) : Take :=
  { t with st := .blending, members := t.members.map Member.start, engine := e, ramp := 0, due := none }

/-- A take with no ramp to run settles at once (R135). -/
def Take.startSettled (t : Take) : Take := { t with members := t.members.map Member.start }.settleNow

theorem startTake_cut {t : Take} (h : t.needsEngine = false) (s : State) :
    startTake t s = updateTake t.num Take.startSettled s := if_neg (by rw [h]; nofun)

theorem startTake_blend {t : Take} (h : t.needsEngine = true) (s : State) :
    startTake t s = updateTake t.num (Take.startBlend (assignEngine t.num s).2) (assignEngine t.num s).1 := if_pos h

/-- An engine taken over: every take that holds it settles. -/
def State.freeEngine (e : Bool) (s : State) : State :=
  { s with sw := { s.sw with takes := s.sw.takes.map fun t => if t.engine = some e then t.settleNow else t } }

theorem assignEngine_lower {s : State} (h : engineFree s.sw.takes false = true) (n : Nat) :
    assignEngine n s = (s.freeEngine false, some false) := if_pos h

theorem assignEngine_upper {s : State} (h : engineFree s.sw.takes false = false) (k : engineFree s.sw.takes true = true) (n : Nat) :
    assignEngine n s = (s.freeEngine true, some true) := (if_neg (by rw [h]; nofun)).trans (if_pos k)

theorem assignEngine_snaps {s : State} (h : engineFree s.sw.takes false = false) (k : engineFree s.sw.takes true = false)
    {u : Take} (choice : snapChoice s.sw.takes = some u) (n : Nat) : assignEngine n s =
      (raise (.takeSnapped u.num .engine ((u.members.filter fun m => m.stage == .ramp).map (·.group)) u.ramp n .settling)
        (updateTake u.num Take.settleNow s), u.engine) := by
  refine (if_neg (by rw [h]; nofun)).trans ((if_neg (by rw [k]; nofun)).trans ?_)
  rw [choice]

theorem engineFree_iff {ts : List Take} {e : Bool} :
    engineFree ts e = true ↔ ∀ t ∈ ts, t.engine = some e → t.rampDone = true := by
  simp only [engineFree, List.all_eq_true, Bool.or_eq_true, Bool.not_eq_true', beq_eq_false_iff_ne, ne_eq, imp_iff_not_or]

theorem engineFree_false {ts : List Take} {e : Bool} {u : Take} (mem : u ∈ ts) (engine : u.engine = some e)
    (ramp : u.rampDone = false) : engineFree ts e = false :=
  Bool.eq_false_iff.2 fun k => by
    rw [engineFree_iff.1 k u mem engine] at ramp
    cases ramp

theorem needsEngine_iff {t : Take} : t.needsEngine = true ↔ ∃ m ∈ t.members, m.stage = .outgoing ∧ m.mode = .blend := by
  simp [Take.needsEngine]

/-- A take's record changed after a change of others that leaves its own. -/
theorem updateTake_map {s : State} (nodup : (s.sw.takes.map (·.num)).Nodup) {t : Take} (h : t ∈ s.sw.takes)
    {g : Take → Take} (num : ∀ x, (g x).num = x.num) (self : g t = t) (f : Take → Take) :
    updateTake t.num f { s with sw := { s.sw with takes := s.sw.takes.map g } } =
      { s with sw := { s.sw with takes := s.sw.takes.map fun x => if x.num = t.num then f t else g x } } := by
  have same : ((s.sw.takes.map g).map fun x => if x.num = t.num then f x else x) =
      s.sw.takes.map fun x => if x.num = t.num then f t else g x := by
    rw [List.map_map]
    refine List.map_congr_left fun x hx => ?_
    change (if (g x).num = t.num then f (g x) else g x) = _
    rw [num]
    split
    · rw [takeNums_inj nodup hx h ‹_›, self]
    · rfl
  exact congrArg (fun ts => { s with sw := { s.sw with takes := ts } }) same

@[simp] theorem Take.settleNow_num (t : Take) : t.settleNow.num = t.num := rfl

theorem freeEngine_unheld {s : State} {e : Bool} (h : ∀ u ∈ s.sw.takes, u.engine ≠ some e) : s.freeEngine e = s := by
  have same : (s.sw.takes.map fun t => if t.engine = some e then t.settleNow else t) = s.sw.takes := by
    refine (List.map_congr_left fun t ht => ?_).trans (List.map_id' _)
    exact if_neg (h t ht)
  exact congrArg (fun ts => { s with sw := { s.sw with takes := ts } }) same

/-- An engine held by one take. -/
theorem freeEngine_held {s : State} (nodup : (s.sw.takes.map (·.num)).Nodup) {e : Bool} {u : Take} (mem : u ∈ s.sw.takes)
    (engine : u.engine = some e) (only : ∀ x ∈ s.sw.takes, x.engine = some e → x = u) : s.freeEngine e =
      { s with sw := { s.sw with takes := s.sw.takes.map fun x => if x.num = u.num then u.settleNow else x } } := by
  have same : (s.sw.takes.map fun t => if t.engine = some e then t.settleNow else t) =
      s.sw.takes.map fun x => if x.num = u.num then u.settleNow else x := by
    refine List.map_congr_left fun x hx => ?_
    by_cases held : x.engine = some e
    · rw [only x hx held, if_pos engine, if_pos rfl]
    · rw [if_neg held, if_neg fun n => held (by rw [takeNums_inj nodup hx mem n]; exact engine)]
  exact congrArg (fun ts => { s with sw := { s.sw with takes := ts } }) same

/-! ## The take to snap (R136) -/

theorem frameDiff_neg {x y : HouseFrame} (h : frameDiff x y ≠ -(2 ^ 36)) : frameDiff y x = -frameDiff x y := by
  have hx := x.isLt
  have hy := y.isLt
  unfold frameDiff at h ⊢
  rw [BitVec.toInt_eq_toNat_cond, BitVec.toNat_sub] at h
  rw [BitVec.toInt_eq_toNat_cond, BitVec.toInt_eq_toNat_cond, BitVec.toNat_sub, BitVec.toNat_sub]
  omega

theorem snapFirst_eq (t u : Take) : snapFirst t u =
    if frameDiff u.startFrame t.startFrame < 0 ∨ frameDiff u.startFrame t.startFrame = 0 ∧ u.engine = some false then u else t := rfl

/-- A list of distinct elements that holds exactly two. -/
theorem two_of_mem {α : Type} {xs : List α} (nodup : xs.Nodup) {u v : α} (ne : u ≠ v) (hu : u ∈ xs) (hv : v ∈ xs)
    (only : ∀ x ∈ xs, x = u ∨ x = v) : xs = [u, v] ∨ xs = [v, u] := by
  have perm : xs.Perm [u, v] := (List.perm_ext_iff_of_nodup nodup (by simp [ne])).2 fun x => by
    simp only [List.mem_cons, List.not_mem_nil, or_false]
    exact ⟨only x, fun h => by rcases h with rfl | rfl <;> assumption⟩
  exact List.perm_pair.1 perm

/-- Of two BLENDING takes on the two engines, the one with the earlier start frame; of equals that on engine 0. -/
theorem snapChoice_two {ts : List Take} (nodup : (ts.map (·.num)).Nodup) {u v : Take} (hu : u ∈ ts) (hv : v ∈ ts)
    (ust : u.st = .blending) (vst : v.st = .blending) (lower : u.engine = some false) (upper : v.engine = some true)
    (only : ∀ x ∈ ts, x.st = .blending → x = u ∨ x = v) :
    (0 ≤ frameDiff v.startFrame u.startFrame → snapChoice ts = some u) ∧
      (frameDiff v.startFrame u.startFrame < 0 → frameDiff v.startFrame u.startFrame ≠ -(2 ^ 36) → snapChoice ts = some v) := by
  have ne : u ≠ v := fun e => by rw [e, upper] at lower; cases lower
  have two : (ts.filter fun t => t.st == .blending) = [u, v] ∨ (ts.filter fun t => t.st == .blending) = [v, u] := by
    refine two_of_mem (nodup.of_map.filter _) ne (List.mem_filter.2 ⟨hu, beq_iff_eq.2 ust⟩) (List.mem_filter.2 ⟨hv, beq_iff_eq.2 vst⟩) ?_
    intro x hx
    obtain ⟨mem, st⟩ := List.mem_filter.1 hx
    exact only x mem (beq_iff_eq.1 st)
  have choice : snapChoice ts = some (snapFirst u v) ∨ snapChoice ts = some (snapFirst v u) := by
    unfold snapChoice
    rcases two with e | e
    · exact .inl (by rw [e]; rfl)
    · exact .inr (by rw [e]; rfl)
  have other (h : frameDiff v.startFrame u.startFrame ≠ -(2 ^ 36)) := frameDiff_neg h
  refine ⟨fun later => ?_, fun earlier edge => ?_⟩
  · have here := other (by omega)
    have fv : snapFirst u v = u := by
      rw [snapFirst_eq, if_neg]
      rintro (lt | ⟨-, e⟩)
      · omega
      · rw [upper] at e; cases e
    have fu : snapFirst v u = u := by
      rw [snapFirst_eq, if_pos]
      rw [here]
      by_cases zero : frameDiff v.startFrame u.startFrame = 0
      · exact .inr ⟨by omega, lower⟩
      · exact .inl (by omega)
    rcases choice with e | e
    · rw [e, fv]
    · rw [e, fu]
  · have here := other edge
    have fv : snapFirst u v = v := by rw [snapFirst_eq, if_pos (.inl earlier)]
    have fu : snapFirst v u = v := by
      rw [snapFirst_eq, if_neg]
      rw [here]
      rintro (lt | ⟨e, -⟩) <;> omega
    rcases choice with e | e
    · rw [e, fv]
    · rw [e, fu]

/-! ## Several starts at one boundary (R136) -/

theorem snapChoice_blending {ts : List Take} {u : Take} (h : snapChoice ts = some u) : u ∈ ts ∧ u.st = .blending := by
  have mem : u ∈ ts.filter fun t => t.st == .blending := by
    unfold snapChoice at h
    split at h
    · cases h
    · next t us e =>
      obtain rfl := Option.some.inj h
      rw [e]
      refine List.foldlRecOn (motive := fun x => x ∈ t :: us) us snapFirst (.head _) fun x hx y hy => ?_
      rw [snapFirst_eq]
      split
      · exact .tail _ hy
      · exact hx
  obtain ⟨mem, st⟩ := List.mem_filter.1 mem
  exact ⟨mem, beq_iff_eq.1 st⟩

/-- What giving an engine does to the table: a take is left as it is, or is BLENDING and settles. -/
theorem assignEngine_takes {s : State} (p : s.ServiceSafe) (n : Nat) : ∃ g : Take → Take,
    (assignEngine n s).1.sw.takes = s.sw.takes.map g ∧
      ∀ x ∈ s.sw.takes, g x = x ∨ x.st = .blending ∧ g x = x.settleNow := by
  have free (e : Bool) : ∀ x ∈ s.sw.takes, (if x.engine = some e then x.settleNow else x) = x ∨
      x.st = .blending ∧ (if x.engine = some e then x.settleNow else x) = x.settleNow := fun x hx => by
    by_cases held : x.engine = some e
    · exact .inr ⟨p.engines x hx (by rw [held]; nofun), if_pos held⟩
    · exact .inl (if_neg held)
  by_cases lower : engineFree s.sw.takes false = true
  · exact ⟨_, by rw [assignEngine_lower lower]; rfl, free false⟩
  by_cases upper : engineFree s.sw.takes true = true
  · exact ⟨_, by rw [assignEngine_upper (Bool.eq_false_iff.2 lower) upper]; rfl, free true⟩
  cases choice : snapChoice s.sw.takes with
  | none =>
    refine ⟨id, ?_, fun _ _ => .inl rfl⟩
    rw [assignEngine, if_neg lower, if_neg upper, choice, List.map_id]
  | some u =>
    obtain ⟨mem, st⟩ := snapChoice_blending choice
    refine ⟨fun x => if x.num = u.num then x.settleNow else x, ?_, fun x hx => ?_⟩
    · rw [assignEngine_snaps (Bool.eq_false_iff.2 lower) (Bool.eq_false_iff.2 upper) choice]
      rfl
    · by_cases num : x.num = u.num
      · exact .inr ⟨by rw [takeNums_inj p.numbers hx mem num]; exact st, if_pos num⟩
      · exact .inl (if_neg num)

/-- What a start does to the table: the take of that number is no longer due, and of the others none that is due to start is
touched. -/
theorem startTake_takes {s : State} (p : s.ServiceSafe) (t : Take) : ∃ f : Take → Take,
    (startTake t s).sw.takes = s.sw.takes.map f ∧ ∀ x ∈ s.sw.takes, (f x).num = x.num ∧
      (x.num = t.num → (f x).startDue = false) ∧ (x.num ≠ t.num → f x = x ∨ x.startDue = false ∧ (f x).startDue = false) := by
  by_cases needs : t.needsEngine = true
  · obtain ⟨g, takes, moved⟩ := assignEngine_takes p t.num
    refine ⟨fun x => if x.num = t.num then (g x).startBlend (assignEngine t.num s).2 else g x, ?_, fun x hx => ?_⟩
    · have nums (x : Take) (hx : x ∈ s.sw.takes) : (g x).num = x.num := by
        exact (moved x hx).elim (congrArg Take.num) fun e => by rw [e.2, Take.settleNow_num]
      rw [startTake_blend needs]
      change (assignEngine t.num s).1.sw.takes.map _ = _
      rw [takes, List.map_map]
      refine List.map_congr_left fun x hx => ?_
      change (if (g x).num = t.num then _ else _) = _
      rw [nums x hx]
    · by_cases num : x.num = t.num
      · refine ⟨?_, fun _ => ?_, fun k => absurd num k⟩
        · rcases moved x hx with e | ⟨-, e⟩ <;> (simp only [if_pos num, e]; rfl)
        · simp only [if_pos num]; rfl
      · simp only [if_neg num]
        rcases moved x hx with e | ⟨st, e⟩
        · exact ⟨by rw [e], fun k => absurd k num, fun _ => .inl e⟩
        · refine ⟨by rw [e]; rfl, fun k => absurd k num, fun _ => .inr ⟨?_, by rw [e]; rfl⟩⟩
          rw [Take.startDue, st]
          rfl
  · refine ⟨fun x => if x.num = t.num then x.startSettled else x, ?_, fun x hx => ?_⟩
    · rw [startTake_cut (Bool.eq_false_iff.2 needs)]
      rfl
    · by_cases num : x.num = t.num
      · simp only [if_pos num]
        exact ⟨rfl, fun _ => rfl, fun k => absurd num k⟩
      · exact ⟨congrArg Take.num (if_neg num), fun k => absurd k num, fun _ => .inl (if_neg num)⟩

/-- The starts due up to a number, when the lowest of them comes first in a table in order. -/
theorem dueStarts_cons {ts : List Take} (order : ts.Pairwise fun t u => t.num < u.num) {p : Take} (mem : p ∈ ts)
    (due : p.startDue = true) {n : Nat} (le : p.num ≤ n) (least : ∀ x ∈ ts, x.startDue = true → p.num ≤ x.num) :
    dueStarts ts n = p.num :: dueStarts (ts.filter fun x => !(x.num == p.num)) n := by
  obtain ⟨before, after, rfl⟩ := List.append_of_mem mem
  obtain ⟨-, later, earlier⟩ := List.pairwise_append.1 order
  have idle (x) (hx : x ∈ before) : x.startDue = false := Bool.eq_false_iff.2 fun k =>
    absurd (earlier x hx p (.head _)) (Nat.not_lt.2 (least x (List.mem_append_left _ hx) k))
  have none : (before.filter fun x => x.startDue && decide (x.num ≤ n)) = [] :=
    List.filter_eq_nil_iff.2 fun x hx k => by rw [idle x hx] at k; cases k
  have kept : (after.filter fun x => !(x.num == p.num)) = after := List.filter_eq_self.2 fun x hx => by
    have lt := List.rel_of_pairwise_cons later hx
    simp only [Bool.not_eq_true', beq_eq_false_iff_ne]
    omega
  unfold dueStarts
  rw [List.filter_append, List.filter_append (l₁ := before), List.filter_cons_of_neg (p := fun x : Take => !(x.num == p.num)) (by simp),
    kept, List.filter_append, none, List.filter_cons_of_pos (by simp [due, le])]
  have none' : ((before.filter fun x => !(x.num == p.num)).filter fun x => x.startDue && decide (x.num ≤ n)) = [] :=
    List.filter_eq_nil_iff.2 fun x hx k => by rw [idle x (List.mem_filter.1 hx).1] at k; cases k
  rw [none']
  rfl

/-- The starts due after one take's start are those due before it without that take's. -/
theorem dueStarts_started {ts : List Take} {n k : Nat} {f : Take → Take} (h : ∀ x ∈ ts, (f x).num = x.num ∧
      (x.num = k → (f x).startDue = false) ∧ (x.num ≠ k → f x = x ∨ x.startDue = false ∧ (f x).startDue = false)) :
    dueStarts (ts.map f) n = dueStarts (ts.filter fun x => !(x.num == k)) n := by
  unfold dueStarts
  induction ts with
  | nil => rfl
  | cons x xs ih =>
    obtain ⟨num, self, other⟩ := h x (.head _)
    have rest := ih fun y hy => h y (.tail _ hy)
    by_cases e : x.num = k
    · rw [List.map_cons, List.filter_cons_of_neg (by simp [self e]), List.filter_cons_of_neg (p := fun x : Take => !(x.num == k)) (by simp [e])]
      exact rest
    · rw [List.filter_cons_of_pos (p := fun x : Take => !(x.num == k)) (by simp [e])]
      rcases other e with same | ⟨idle, idle'⟩
      · rw [List.map_cons, same, List.filter_cons, List.filter_cons]
        split
        · rw [List.map_cons, List.map_cons, rest]
        · exact rest
      · rw [List.map_cons, List.filter_cons_of_neg (by simp [idle']), List.filter_cons_of_neg (by simp [idle])]
        exact rest

/-- A row for a take carries out the lowest start that is due, and then goes on as a row of the state it leaves. -/
theorem takeStart_lower {s : State} (safe : s.ServiceSafe) {t p : Take} (mem : t ∈ s.sw.takes) (hp : p ∈ s.sw.takes)
    (due : t.startDue = true) (pdue : p.startDue = true) (lt : p.num < t.num)
    (least : ∀ x ∈ s.sw.takes, x.startDue = true → p.num ≤ x.num) :
    takeStart t.num s = takeStart t.num (takeStart p.num s) := by
  have first : takeStart p.num s = startTake p s := takeStart_first safe.numbers hp pdue fun x hx k =>
    Bool.eq_false_iff.2 fun d => absurd k (Nat.not_lt.2 (least x hx d))
  obtain ⟨f, takes, moved⟩ := startTake_takes safe p
  have nums : ((startTake p s).sw.takes.map (·.num)).Nodup := by
    rw [takes, List.map_map, List.map_congr_left (f := Take.num ∘ f) (g := Take.num) fun x hx => (moved x hx).1]
    exact safe.numbers
  have same : f t = t := (moved t mem).2.2 (by omega) |>.resolve_right fun k => by rw [k.1] at due; cases due
  have still : t ∈ (startTake p s).sw.takes := by
    rw [takes]
    exact List.mem_map.2 ⟨t, mem, same⟩
  rw [first, takeStart_due nums still due, takeStart_due safe.numbers mem due,
    dueStarts_cons safe.order hp pdue (Nat.le_of_lt lt) least, List.foldl_cons, startOne_due safe.numbers hp pdue, takes,
    dueStarts_started moved]

/-- The member stages that a start sets, as the statement writes them. -/
theorem startBlend_eq (e : Bool) (t : Take) : t.startBlend (some e) =
    { t with
      st := .blending, engine := some e, ramp := 0, due := none
      members := t.members.map fun m =>
        if m.stage = .outgoing then { m with stage := if m.mode = .cut then .incoming else .ramp } else m } := by
  rw [Take.startBlend, List.map_congr_left fun m _ => m.start_eq]

/-- Settles O54. -/
theorem takeStartHolds : Obligations.TakeStart := by
  intro t s on nodup mem waiting started blends put blending settled held
  have needs : t.needsEngine = true ↔ blends := needsEngine_iff
  have settled_eq : t.startSettled = settled { t with members := t.members.map started } := by
    rw [Take.startSettled, List.map_congr_left fun m _ => m.start_eq]
    rfl
  have blend_eq (e : Bool) : t.startBlend (some e) = blending e := startBlend_eq e t
  refine ⟨fun notDue => ?_, fun due p hp lower pst pdue first safe => ?_, fun due first => ?_⟩
  · exact next_event on (takeStart_notDue nodup mem (Bool.eq_false_iff.2 fun k => notDue (Take.startDue_iff.1 k).2))
  · have pdue' : p.startDue = true := Take.startDue_iff.2 ⟨pst, pdue⟩
    exact ⟨next_event on (takeStart_lower safe mem hp (Take.startDue_iff.2 ⟨waiting, due⟩) pdue' lower fun x hx k =>
      first x hx (Take.startDue_iff.1 k).1 (Take.startDue_iff.1 k).2), next_event on rfl⟩
  · have row {u : State} (h : startTake t s = u) : exec (.takeStart t.num) s = .next (kick u) :=
      next_event on ((takeStart_first nodup mem (Take.startDue_iff.2 ⟨waiting, due⟩) fun x hx lt =>
        Bool.eq_false_iff.2 fun k => first x hx lt (Take.startDue_iff.1 k)).trans h)
    have cut (h : ¬blends) : startTake t s = updateTake t.num Take.startSettled s :=
      startTake_cut (Bool.eq_false_iff.2 (mt needs.1 h)) s
    have blended {u : State} {e : Bool} (h : blends) (k : assignEngine t.num s = (u, some e)) :
        startTake t s = updateTake t.num (Take.startBlend (some e)) u := by
      rw [startTake_blend (needs.2 h), k]
    have apart {u : Take} (hu : u ∈ s.sw.takes) (st : u.st = .blending) : t.num ≠ u.num := fun e => by
      rw [takeNums_inj nodup mem hu e, st] at waiting
      cases waiting
    have keeps {u : Take} (hu : u ∈ s.sw.takes) (st : u.st = .blending) (f : Take → Take) :=
      updateTake_map nodup mem (g := fun x => if x.num = u.num then u.settleNow else x)
        (fun x => by split <;> simp [*]) (if_neg (apart hu st)) f
    refine ⟨fun h => row ?_, fun h free => row ?_, fun h busy free ramp => row ?_,
      fun u e h hu engine ust full only busy => row ?_, fun u v hu hv h ust vst lower upper uramp vramp only => ?_⟩
    · rw [cut h, updateTake_eq nodup mem, settled_eq]
    · have lower : engineFree s.sw.takes false = true := engineFree_iff.2 fun x hx k => absurd ⟨x, hx, k⟩ free
      rw [blended h (assignEngine_lower lower _), freeEngine_unheld fun x hx k => free ⟨x, hx, k⟩, updateTake_eq nodup mem, blend_eq]
    · obtain ⟨x, hx, engine⟩ := busy
      have upper : engineFree s.sw.takes true = true := engineFree_iff.2 fun x hx k => absurd ⟨x, hx, k⟩ free
      rw [blended h (assignEngine_upper (engineFree_false hx engine (ramp x hx engine)) upper _),
        freeEngine_unheld fun x hx k => free ⟨x, hx, k⟩, updateTake_eq nodup mem, blend_eq]
    · have freed : assignEngine t.num s = (s.freeEngine e, some e) := by
        have done : engineFree s.sw.takes e = true := engineFree_iff.2 fun x hx k => by
          rw [only x hx k, Take.rampDone, ust, decide_eq_true full]
          rfl
        cases e with
        | false => exact assignEngine_lower done _
        | true =>
          obtain ⟨v, hv, engine, ramp⟩ := busy rfl
          exact assignEngine_upper (engineFree_false hv engine ramp) done _
      rw [blended h freed, freeEngine_held nodup hu engine only, keeps hu ust, blend_eq]
      rfl
    · intro gap hand
      have snapped {x : Take} {e : Bool} (hx : x ∈ s.sw.takes) (st : x.st = .blending) (engine : x.engine = some e)
          (choice : snapChoice s.sw.takes = some x) : startTake t s = hand x e := by
        have given := assignEngine_snaps (engineFree_false hu lower uramp) (engineFree_false hv upper vramp) choice t.num
        rw [engine, updateTake_eq nodup hx] at given
        rw [blended h given]
        have kept := congrArg (raise (.takeSnapped x.num .engine ((x.members.filter fun m => m.stage == .ramp).map (·.group))
          x.ramp t.num .settling)) (keeps hx st (Take.startBlend (some e)))
        rw [blend_eq] at kept
        exact kept
      obtain ⟨earlier, later⟩ := snapChoice_two nodup hu hv ust vst lower upper only
      exact ⟨fun k => row (snapped hu ust lower (earlier k)), fun k edge => row (snapped hv vst upper (later k edge))⟩

end Sys2Proof.Machine

end

section
/-! SUPPORT. The close of one take (R141, R142, R158): its groups land, its record and levels go, and its notice is raised; and
the ends of a take's ramp and settling (R139, R140), and its spoil (R142, R143). -/

namespace Sys2Proof.Machine

/-! ## Members that complete and members that stay (R141, R142) -/

theorem Take.mem_completing {t : Take} {m : Member} :
    m ∈ t.completing ↔ m ∈ t.members ∧ (t.st ≠ .waiting ∨ m.stage = .incoming) := by
  unfold Take.completing
  split
  · simp [*]
  · simp [*]

theorem Take.mem_leaving {t : Take} {m : Member} :
    m ∈ t.leaving ↔ m ∈ t.members ∧ ¬(t.st ≠ .waiting ∨ m.stage = .incoming) := by
  unfold Take.leaving
  split
  · simp [*]
  · simp [*]

/-- A group of which no member completes. -/
theorem Take.land_none {t : Take} {g : Group} (h : ∀ m ∈ t.completing, m.group ≠ g.num) : t.land g = g := by
  have none_ : t.completing.find? (fun m => m.group == g.num) = none :=
    List.find?_eq_none.2 fun m hm => by simpa using h m hm
  rw [Take.land, none_]

theorem Take.startBlock_eq (t : Take) :
    t.startBlock = if t.st = .waiting then none else some (frameBlock t.startFrame) := rfl

theorem land_nums (t : Take) (gs : List Group) : (gs.map fun g => t.land g).map (·.num) = gs.map (·.num) := by
  rw [List.map_map]
  exact List.map_congr_left fun g _ => Take.land_num g t

theorem memberSources_groups (gs : List Group) (ms : List Member) : (memberSources gs ms).map (·.1) = ms.map (·.group) := by
  rw [memberSources, List.map_map]
  rfl

/-- What a TAKE_SETTLED or TAKE_SPOILED gives for a defined group is the group's source. -/
theorem memberSources_source {gs : List Group} (apart : (gs.map (·.num)).Nodup) {ms : List Member} {x : Nat × Source}
    (hx : x ∈ memberSources gs ms) {g : Group} (hg : g ∈ gs) (num : g.num = x.1) : x.2 = g.source := by
  obtain ⟨m, -, rfl⟩ := List.mem_map.1 hx
  have found : findGroup gs m.group = some g := by
    rw [← (show g.num = m.group from num)]
    exact findGroup_eq_some hg fun h hh e => List.inj_on_of_nodup_map apart hh hg e
  simp only [found, Option.map_some, Option.getD_some]

/-! ## The close -/

/-- The state after a take's close, before the arbiter examines what waits (R120, R141, R158). -/
def State.closedTake (b : NoticeBody) (t : Take) (s : State) : State :=
  let u := s.regrouped (s.groups.map fun g => t.land g)
  { u with
    sw := { s.sw with takes := s.sw.takes.filter fun x => x.num != t.num }
    arb := ⟨u.arb.requests, s.arb.inService.filter fun x => x.2 != t.num⟩
    desk := u.desk.offer b s.block }

theorem closeTake_eq (notice : Take → State → NoticeBody) (t : Take) (s : State) :
    closeTake notice t s = examine (s.closedTake
      (notice t (removeTake t.num (s.regrouped (s.groups.map fun g => t.land g)))) t) := by
  have groups : completeGroups t t.completing s.groups = s.groups.map fun g => t.land g := rfl
  unfold closeTake
  rw [writeGroups_eq, groups]
  rfl

theorem closedTake_tracker (b : NoticeBody) (t : Take) (s : State) (r : Rig) :
    (s.closedTake b t).tracker r = s.trackerAfter (s.groups.map fun g => t.land g) r := State.regrouped_tracker _ s r

theorem closedTake_desk (b : NoticeBody) (t : Take) (s : State) : (s.closedTake b t).desk =
    s.desk.offers (s.rigStates s.tracker (s.closedTake b t).tracker ++ [b]) s.block := by
  rw [funext (closedTake_tracker b t s), Desk.offers_append]
  rfl

theorem closedTake_quiet {s : State} (h : s.arb.requests = []) (b : NoticeBody) (t : Take) :
    (s.closedTake b t).arb.requests = [] := by
  change s.requestsAfter _ = []
  rw [State.requestsAfter, h]
  rfl

theorem closedTake_group {s : State} {i : Nat} {g : Group} (h : s.groups[i]? = some g) (b : NoticeBody) (t : Take) :
    (s.closedTake b t).groups[i]? = some (t.land g) := by
  change (s.groups.map fun g => t.land g)[i]? = _
  rw [List.getElem?_map, h]
  rfl

/-! ## RAMP_END and SETTLE_END (R139, R140) -/

section

variable {t : Take} {s : State} (nodup : (s.sw.takes.map (·.num)).Nodup) (mem : t ∈ s.sw.takes)

include nodup mem

theorem rampEnd_eq : rampEnd t.num s =
    if t.st = .blending ∧ t.due = some .rampEnd then updateTake t.num Take.settleNow s else s := by
  rw [rampEnd, findTake_of_mem nodup mem]

theorem settleEnd_eq : settleEnd t.num s =
    if t.st = .settling ∧ t.due = some .settleEnd then closeTake (settledNotice .settled) t s else s := by
  rw [settleEnd, findTake_of_mem nodup mem]

end

/-! ## A target's fault (R142, R143) -/

theorem mem_leftRigs {t : Take} {x : Rig} :
    x ∈ leftRigs t ↔ t.st = .waiting ∧ ∃ m ∈ t.members, m.stage ≠ .incoming ∧ m.src = .rig x := by
  have all : x ∈ Rig.all := by cases x <;> decide
  simp only [leftRigs, List.mem_filter, all, true_and, List.any_eq_true, Take.mem_leaving, beq_iff_eq, not_or, not_not]
  exact ⟨fun ⟨m, ⟨hm, st, stage⟩, src⟩ => ⟨st, m, hm, stage, src⟩, fun ⟨st, m, hm, stage, src⟩ => ⟨m, ⟨hm, st, stage⟩, src⟩⟩

theorem leftRigs_one {t : Take} {x : Rig} (h : x ∈ leftRigs t) (only : ∀ y ∈ leftRigs t, y = x) : leftRigs t = [x] := by
  have nodup : (leftRigs t).Nodup := List.Nodup.filter _ (by decide)
  exact List.perm_singleton.1 ((List.perm_ext_iff_of_nodup nodup (List.nodup_singleton x)).2 fun y =>
    ⟨fun k => List.mem_singleton.2 (only y k), fun k => List.mem_singleton.1 k ▸ h⟩)

/-- The fault of a lone take's target: the take closes as spoiled, and the rigs left as sources renew. -/
theorem targetFault_one {s : State} {t : Take} {r : Rig} (takes : s.sw.takes = [t]) (target : t.target = .rig r) :
    targetFault r s = (leftRigs t).foldl renew (closeTake spoiledNotice t s) := by
  have named : (s.sw.takes.filter fun t => t.target == .rig r).map (·.num) = [t.num] := by simp [takes, target]
  have found : findTake s.sw.takes t.num = some t := by simp [findTake, takes]
  rw [targetFault, named, List.foldl_cons, List.foldl_nil, spoilTake, found]
  exact if_pos target

theorem renewals_none {s : State} {rs : List Rig}
    (h : ∀ x ∈ rs, (s.tracker x).st ≠ .failed ∧ (s.tracker x).st ≠ .offline) : rs.foldl renew s = s := by
  induction rs with
  | nil => rfl
  | cons x xs ih =>
    obtain ⟨failed, offline⟩ := h x (.head _)
    rw [List.foldl_cons, renew_sound failed fun k => absurd k offline]
    exact ih fun y hy => h y (.tail _ hy)

/-- SETTLE_END, due (R140, R141). -/
theorem settleEnd_due (t : Take) (s : State) (on : s.power = true) (nodup : (s.sw.takes.map (·.num)).Nodup)
    (mem : t ∈ s.sw.takes) (st : t.st = .settling) (due : t.due = some .settleEnd) :
    ∃ (u : State) (after : List (Nat × Source)),
         exec (.settleEnd t.num) s = .next (kick (examine u)) ∧
         (s.arb.requests = [] → exec (.settleEnd t.num) s = .next (kick u)) ∧
         u.sw = { s.sw with takes := s.sw.takes.filter fun x => x.num != t.num } ∧
         u.arb = ⟨s.requestsAfter u.groups, s.arb.inService.filter fun x => x.2 != t.num⟩ ∧
         (∀ r, u.tracker r = s.trackerAfter u.groups r) ∧ u.groups.length = s.groups.length ∧
         (∀ (i : Nat) (g : Group), s.groups[i]? = some g →
           ((∀ m ∈ t.members, m.group ≠ g.num) → u.groups[i]? = some g) ∧
           (∀ m ∈ t.members, (t.members.map (·.group)).Nodup → m.group = g.num →
             u.groups[i]? = some { g with
               source := t.target, uncovered := false
               last := some ⟨t.num, t.cause, m.src, t.target, some (frameBlock t.startFrame)⟩ })) ∧
         after.map (·.1) = t.members.map (·.group) ∧
         ((s.groups.map (·.num)).Nodup → ∀ x ∈ after, ∀ g ∈ u.groups, g.num = x.1 → x.2 = g.source) ∧
         u.desk = s.desk.offers
           (s.rigStates s.tracker u.tracker ++
             [.takeSettled t.num .settled t.cause t.target t.levels none (some (frameBlock t.startFrame)) after])
           s.block ∧
         u = { s with sw := u.sw, arb := u.arb, groups := u.groups, trackers := u.trackers, desk := u.desk } := by
  have started : t.startBlock = some (frameBlock t.startFrame) := by rw [Take.startBlock_eq, if_neg (by rw [st]; nofun)]
  let landed := s.groups.map fun g => t.land g
  let after := memberSources landed t.members
  let b : NoticeBody := .takeSettled t.num .settled t.cause t.target t.levels none (some (frameBlock t.startFrame)) after
  have row : settleEnd t.num s = examine (s.closedTake b t) := by
    rw [settleEnd_eq nodup mem, if_pos ⟨st, due⟩, closeTake_eq, settledNotice, started]
    rfl
  refine ⟨s.closedTake b t, after, next_event on row, fun none_ => ?_, rfl, rfl, closedTake_tracker b t s, List.length_map _,
    fun i g hg => ?_, memberSources_groups _ _, fun apart x hx g hg num => ?_, closedTake_desk b t s, rfl⟩
  · exact next_event on (row.trans (examine_none (closedTake_quiet none_ b t)))
  · rw [closedTake_group hg]
    refine ⟨fun other => by rw [Take.land_other other], fun m hm apart num => ?_⟩
    rw [Take.land_landed apart hm num (.inl (by rw [st]; nofun)), Group.complete, started]
  · exact memberSources_source (by rw [land_nums]; exact apart) hx hg num

/-- Settles O55. -/
theorem rampAndSettleEnd : Obligations.RampAndSettleEnd := by
  refine ⟨fun t s on nodup mem => ⟨fun no => ?_, fun st due => ?_, fun no => ?_, fun st due => ?_⟩,
    fun r t s takes target requests apart _ => ?_⟩
  · exact next_event on ((rampEnd_eq nodup mem).trans (if_neg no))
  · exact next_event on ((rampEnd_eq nodup mem).trans ((if_pos ⟨st, due⟩).trans (updateTake_eq nodup mem _)))
  · exact next_event on ((settleEnd_eq nodup mem).trans (if_neg no))
  · exact settleEnd_due t s on nodup mem st due
  · intro completing left started
    let landed := s.groups.map fun g => t.land g
    let done := t.completing.map (·.group)
    let stays := memberSources landed t.leaving
    let b : NoticeBody := .takeSpoiled t.num (.rig r) t.st t.levels done stays
    have closed : closeTake spoiledNotice t s = s.closedTake b t := by
      rw [closeTake_eq, examine_none (closedTake_quiet requests _ t), spoiledNotice, target]
      rfl
    have fault : targetFault r s = (leftRigs t).foldl renew (s.closedTake b t) := by rw [targetFault_one takes target, closed]
    have gone : s.sw.takes.filter (fun x => x.num != t.num) = [] := by simp [takes]
    refine ⟨s.closedTake b t, done, stays, ?_, ?_, List.length_map _, closedTake_tracker b t s, fun i g hg => ?_,
      closedTake_desk b t s, fun n => ?_, fun n => ?_, rfl, fun sound => ?_, fun x d hx only stands => ?_⟩
    · exact congrArg (fun ts => { s.sw with takes := ts }) gone
    · exact congrArg (Arbiter.mk · _) (closedTake_quiet requests b t)
    · rw [closedTake_group hg]
      refine ⟨fun other => ?_, fun m hm num completes => ?_⟩
      · rw [Take.land_none fun m hm num => other m (Take.mem_completing.1 hm).1 num (Take.mem_completing.1 hm).2]
      · rw [Take.land_landed apart hm num completes, Group.complete, target]
        rfl
    · simp only [done, List.mem_map, Take.mem_completing, and_assoc, and_comm, completing]
    · rw [memberSources_groups]
      simp only [List.mem_map, Take.mem_leaving, and_assoc, and_comm, completing]
    · exact fault.trans (renewals_none fun x hx => sound x (mem_leftRigs.1 hx))
    · have one : targetFault r s = renew (s.closedTake b t) x := by
        rw [fault, leftRigs_one (mem_leftRigs.2 hx) fun y hy => only y (mem_leftRigs.1 hy)]
        rfl
      rw [one]
      exact renew_stands stands

end Sys2Proof.Machine

end

section
/-! SUPPORT. The fourth wait of a take: the re-choice of its target and the no-cover close (R117, R134). -/

namespace Sys2Proof.Machine

theorem mem_dropRig {dropped : List Rig} {old r : Rig} : r ∈ dropRig dropped old ↔ r ∈ dropped ∨ r = old := by
  have all : r ∈ Rig.all := by cases r <;> decide
  simp [dropRig, all]

section

variable {t : Take} {s : State} (nodup : (s.sw.takes.map (·.num)).Nodup) (mem : t ∈ s.sw.takes)

include nodup mem

theorem takeWaitExpiry_eq : takeWaitExpiry t.num s =
    if t.st = .waiting ∧ t.due = some .waitExpiry then rechoice t s else s := by
  rw [takeWaitExpiry, findTake_of_mem nodup mem]

end

/-- A take goes to another target. -/
theorem retargetTake_eq (t : Take) (s : State) (target : Source) (dropped : List Rig) : retargetTake target dropped t s =
    raise (.takeBegun t.num t.cause t.levels target (t.retarget target dropped (firstFrame (s.block + 1))).members [] true dropped)
      { s with sw := { s.sw with takes := s.sw.takes.map fun x =>
          if x.num = t.num then t.retarget target dropped (firstFrame (s.block + 1)) else x } } := rfl

theorem rechoice_target {t : Take} {old : Rig} (target : t.target = .rig old) (s : State) : rechoice t s =
    if t.cause = .manual then noRechoice (dropRig t.dropped old) t s
    else (chooseTarget s (some t.rig) (dropRig t.dropped old)).elim (noRechoice (dropRig t.dropped old) t s)
      fun r => retargetTake (.rig r) (dropRig t.dropped old) t s := by
  unfold rechoice rechoose
  rw [target]
  dsimp only
  by_cases manual : t.cause = .manual
  · rw [if_pos manual, if_pos manual]
  · rw [if_neg manual, if_neg manual]
    cases chooseTarget s (some t.rig) (dropRig t.dropped old) <;> rfl

/-! ## The marks of a no-cover (R117) -/

/-- A group's UNCOVERED mark at a no-cover of a take for STALL, SLIP or BEAT. -/
def Take.mark (t : Take) (g : Group) : Group :=
  if (t.members.any fun m => m.group == g.num) && g.source == .rig t.rig then { g with uncovered := true } else g

theorem Take.mark_other {t : Take} {g : Group} (h : ∀ m ∈ t.members, m.group ≠ g.num) : t.mark g = g := by
  have none_ : (t.members.any fun m => m.group == g.num) = false := by simpa using h
  rw [Take.mark, none_]
  rfl

theorem Take.mark_member {t : Take} {g : Group} {m : Member} (hm : m ∈ t.members) (num : m.group = g.num) :
    t.mark g = { g with uncovered := g.uncovered || g.source == .rig t.rig } := by
  have some_ : (t.members.any fun m => m.group == g.num) = true := List.any_eq_true.2 ⟨m, hm, beq_iff_eq.2 num⟩
  rw [Take.mark, some_, Bool.true_and]
  by_cases e : (g.source == .rig t.rig) = true
  · rw [if_pos e, e, Bool.or_true]
  · rw [if_neg e, Bool.eq_false_iff.2 e, Bool.or_false]

/-- A change of groups that writes the UNCOVERED mark alone. -/
def MarkOnly (f : Group → Group) : Prop := ∀ g, ∃ c, f g = { g with uncovered := c }

theorem markOnly_id : MarkOnly id := fun g => ⟨g.uncovered, rfl⟩

theorem markOnly_mark (t : Take) : MarkOnly t.mark := fun g => by
  unfold Take.mark
  split
  · exact ⟨true, rfl⟩
  · exact ⟨g.uncovered, rfl⟩

section

variable {f : Group → Group} (h : MarkOnly f)

include h

theorem MarkOnly.num (g : Group) : (f g).num = g.num := by
  obtain ⟨c, e⟩ := h g
  rw [e]

theorem MarkOnly.source (g : Group) : (f g).source = g.source := by
  obtain ⟨c, e⟩ := h g
  rw [e]

theorem MarkOnly.gdef (g : Group) : (f g).gdef = g.gdef := by
  obtain ⟨c, e⟩ := h g
  rw [e]

theorem MarkOnly.complete (t : Take) (m : Member) (g : Group) : (f g).complete t m = g.complete t m := by
  obtain ⟨c, e⟩ := h g
  rw [e]
  rfl

theorem MarkOnly.trackerAfter (s : State) (gs : List Group) (r : Rig) :
    State.trackerAfter { s with groups := s.groups.map f } gs r = s.trackerAfter gs r := by
  have carries : (∃ g ∈ s.groups.map f, g.source = .rig r) ↔ ∃ g ∈ s.groups, g.source = .rig r := by
    simp only [List.mem_map, exists_exists_and_eq_and, h.source]
  unfold State.trackerAfter
  simp only [carries]
  rfl

theorem MarkOnly.requestsAfter (s : State) (gs : List Group) :
    State.requestsAfter { s with groups := s.groups.map f } gs = s.requestsAfter gs := by
  unfold State.requestsAfter
  simp only [List.any_map, Function.comp_def, h.source, h.gdef]

end

/-! ## The no-cover close (R117, R141) -/

/-- A no-cover: the groups marked, NO_COVER, and the take's close. -/
def State.noCover (f : Group → Group) (b c : NoticeBody) (t : Take) (s : State) : State :=
  (raise b { s with groups := s.groups.map f }).closedTake c t

section

variable {f : Group → Group} (marks : MarkOnly f) (b c : NoticeBody) (t : Take) (s : State)

include marks

theorem noCover_tracker (r : Rig) : (s.noCover f b c t).tracker r = s.trackerAfter (s.noCover f b c t).groups r :=
  (closedTake_tracker c t _ r).trans (marks.trackerAfter s _ r)

theorem noCover_arb : (s.noCover f b c t).arb =
    ⟨s.requestsAfter (s.noCover f b c t).groups, s.arb.inService.filter fun x => x.2 != t.num⟩ :=
  congrArg (Arbiter.mk · _) (marks.requestsAfter s _)

end

theorem noCover_desk (f : Group → Group) (b c : NoticeBody) (t : Take) (s : State) : (s.noCover f b c t).desk =
    s.desk.offers (b :: (s.rigStates s.tracker (s.noCover f b c t).tracker ++ [c])) s.block := closedTake_desk c t _

theorem noCover_quiet (f : Group → Group) (b c : NoticeBody) (t : Take) {s : State} (h : s.arb.requests = []) :
    (s.noCover f b c t).arb.requests = [] :=
  closedTake_quiet (s := raise b { s with groups := s.groups.map f }) h c t

theorem noCover_group (f : Group → Group) (b c : NoticeBody) (t : Take) {s : State} {i : Nat} {g : Group}
    (h : s.groups[i]? = some g) : (s.noCover f b c t).groups[i]? = some (t.land (f g)) := by
  refine closedTake_group ?_ c t
  change (s.groups.map f)[i]? = _
  rw [List.getElem?_map, h]
  rfl

/-- The close of a take that completes no member. -/
theorem closedTake_still {t : Take} (h : t.completing = []) (b : NoticeBody) (s : State) : s.closedTake b t = { s with
    sw := { s.sw with takes := s.sw.takes.filter fun x => x.num != t.num }
    arb := ⟨s.arb.requests, s.arb.inService.filter fun x => x.2 != t.num⟩
    desk := s.desk.offer b s.block } := by
  have still : (s.groups.map fun g => t.land g) = s.groups :=
    (List.map_congr_left fun g _ => Take.land_none (by rw [h]; nofun)).trans (List.map_id' _)
  unfold State.closedTake
  rw [still, State.regrouped_same]

/-- The TAKE_SETTLED of a no-cover. -/
def Take.noCoverSettled (t : Take) (gs : List Group) : NoticeBody :=
  .takeSettled t.num .noCover t.cause t.target t.levels none t.startBlock (memberSources (gs.map fun g => t.land g) t.members)

theorem closeTake_noCover (f : Group → Group) (b : NoticeBody) (t : Take) (s : State) :
    closeTake (settledNotice .noCover) t (raise b { s with groups := s.groups.map f }) =
      examine (s.noCover f b (t.noCoverSettled (s.groups.map f)) t) := closeTake_eq _ t _

theorem groups_same (s : State) : { s with groups := s.groups.map id } = s := by rw [List.map_id]

theorem noRechoice_moves {t : Take} (h : t.cause = .manual ∨ t.cause = .recover) (dropped : List Rig) (s : State) :
    noRechoice dropped t s = closeTake (settledNotice .noCover) t
      (raise (.noCover t.cause 4 t.rig .unchanged (t.members.map (·.group)) (some t.num))
        { s with groups := s.groups.map id }) := by
  rw [groups_same, noRechoice]
  rcases h with e | e <;> rw [e] <;> rfl

theorem noRechoice_marks {t : Take} (link : t.cause ≠ .link) (h : ¬(t.cause = .manual ∨ t.cause = .recover))
    (dropped : List Rig) (s : State) : noRechoice dropped t s = closeTake (settledNotice .noCover) t
      (raise (.noCover t.cause t.cause.level t.rig .uncovered (memberGroupsOn t s.groups) (some t.num))
        { s with groups := s.groups.map t.mark }) := by
  rw [not_or] at h
  unfold noRechoice
  split
  · exact absurd ‹_› link
  · exact absurd ‹_› h.2
  · exact absurd ‹_› h.1
  · rfl

/-- Settles O56. -/
theorem takeWaitExpiryHolds : Obligations.TakeWaitExpiry := by
  intro t old s on nodup mem st target again put
  have again_eq (x : Source) (dropped : List Rig) : t.retarget x dropped (firstFrame (s.block + 1)) = again x dropped := rfl
  have due_row (due : t.due = some .waitExpiry) {u : State} (h : rechoice t s = u) :
      exec (.takeWaitExpiry t.num) s = .next (kick u) :=
    next_event on ((takeWaitExpiry_eq nodup mem).trans ((if_pos ⟨st, due⟩).trans h))
  refine ⟨fun no => next_event on ((takeWaitExpiry_eq nodup mem).trans (if_neg fun k => no k.2)), fun due => ?_⟩
  refine ⟨dropRig t.dropped old, fun r => mem_dropRig, fun r cause chosen => ?_, fun cause none_ => ?_,
    fun cause requests outgoing => ?_, fun link or apart nums => ?_⟩
  · refine due_row due ?_
    rw [rechoice_target target, if_neg cause, chosen]
    rfl
  · refine due_row due ?_
    rw [rechoice_target target, if_neg (by rw [cause]; nofun), none_]
    change noRechoice (dropRig t.dropped old) t s = _
    rw [noRechoice, cause]
    dsimp only
    rw [retargetTake_eq, cause]
    rfl
  · have none_ : t.completing = [] := by
      rw [Take.completing, if_pos st]
      exact List.filter_eq_nil_iff.2 fun m hm => by rw [outgoing m hm]; decide
    have row := rechoice_target target s
    rw [if_pos cause, noRechoice_moves (.inl cause), closeTake_noCover, State.noCover, groups_same,
      closedTake_still none_] at row
    have taken := row.trans (examine_none requests)
    exact ⟨_, due_row due taken, rfl, rfl, congrArg (Arbiter.mk · _) requests, rfl⟩
  · intro moves level on_
    have rechosen : rechoice t s = noRechoice (dropRig t.dropped old) t s := by
      rw [rechoice_target target]
      split
      · rfl
      · rw [or.resolve_left ‹_›]
        rfl
    obtain ⟨f, marks, other, moved, marked, closed⟩ : ∃ f : Group → Group, MarkOnly f ∧
        (∀ g, (∀ m ∈ t.members, m.group ≠ g.num) → f g = g) ∧ (moves → f = id) ∧ (¬moves → f = t.mark) ∧
        rechoice t s = closeTake (settledNotice .noCover) t (raise
          (.noCover t.cause level t.rig (if t.cause = .manual ∨ t.cause = .recover then .unchanged else .uncovered)
            (if t.cause = .manual ∨ t.cause = .recover then t.members.map (·.group) else on_) (some t.num))
          { s with groups := s.groups.map f }) := by
      by_cases h : moves
      · have four : level = 4 := by
          simp only [level]
          rcases h with e | e <;> rw [e]
        refine ⟨id, markOnly_id, fun _ _ => rfl, fun _ => rfl, absurd h, ?_⟩
        rw [rechosen, noRechoice_moves h, four, if_pos h, if_pos h]
      · have same : level = t.cause.level := by
          simp only [level]
          cases t.cause <;> rfl
        refine ⟨t.mark, markOnly_mark t, fun _ => Take.mark_other, fun k => absurd k h, fun _ => rfl, ?_⟩
        rw [rechosen, noRechoice_marks link h, same, if_neg h, if_neg h]
        rfl
    rw [closeTake_noCover] at closed
    refine ⟨_, memberSources ((s.groups.map f).map fun g => t.land g) t.members, due_row due closed, fun none_ => ?_, rfl,
      noCover_arb marks _ _ t s, ?_, fun i g hg => ?_, noCover_tracker marks _ _ t s, memberSources_groups _ _,
      fun x hx g hg num => memberSources_source ?_ hx hg num, ?_, rfl⟩
    · exact due_row due (closed.trans (examine_none (noCover_quiet f _ _ t none_)))
    · exact (List.length_map _).trans (List.length_map _)
    · rw [noCover_group _ _ _ _ hg]
      refine ⟨fun no => by rw [other g no, Take.land_other no], fun m hm num => ?_⟩
      have named : m.group = (f g).num := num.trans (marks.num g).symm
      refine ⟨fun stage h => ?_, fun stage h => ?_, fun stage => ?_⟩
      · rw [Take.land_left apart hm named st stage, moved h]
        rfl
      · rw [Take.land_left apart hm named st stage, marked h, Take.mark_member hm num]
      · rw [Take.land_landed apart hm named (.inr stage), marks.complete, Group.complete, target, Take.startBlock_eq, if_pos st]
    · rw [land_nums, List.map_map, List.map_congr_left (f := Group.num ∘ f) (g := Group.num) fun g _ => marks.num g]
      exact nums
    · rw [noCover_desk, Take.noCoverSettled, Take.startBlock_eq, if_pos st, target]

end Sys2Proof.Machine

end

section
/-! SUPPORT. The arbiter's choices: the request decision, the request that an examination picks, and the target of a service
(R103, R111 to R113). -/

namespace Sys2Proof.Machine

/-! ## The request that is picked (R111) -/

/-- The first request goes no later than the second. -/
def Request.NoLater (gs : List Group) (q p : Request) : Prop :=
  q.level < p.level ∨ (q.level = p.level ∧ ((followOn gs p.rig).length < (followOn gs q.rig).length ∨
    ((followOn gs p.rig).length = (followOn gs q.rig).length ∧ portOrder q.rig ≤ portOrder p.rig)))

theorem goesBefore_iff {gs : List Group} {p q : Request} : goesBefore gs p q = true ↔ ¬Request.NoLater gs q p := by
  simp only [goesBefore, decide_eq_true_eq, Request.NoLater]
  omega

theorem Request.NoLater.refl (gs : List Group) (q : Request) : q.NoLater gs q := .inr ⟨rfl, .inr ⟨rfl, Nat.le_refl _⟩⟩

theorem Request.NoLater.trans {gs : List Group} {a b c : Request} (h : a.NoLater gs b) (k : b.NoLater gs c) : a.NoLater gs c := by
  unfold Request.NoLater at *
  omega

theorem Request.NoLater.total {gs : List Group} {p q : Request} (h : ¬q.NoLater gs p) : p.NoLater gs q := by
  unfold Request.NoLater at *
  omega

/-- The better of two requests (R111). -/
def better (gs : List Group) (best p : Request) : Request := if goesBefore gs p best then p else best

theorem better_noLater (gs : List Group) (best p : Request) :
    (better gs best p).NoLater gs best ∧ (better gs best p).NoLater gs p := by
  unfold better
  split
  · have later := goesBefore_iff.1 ‹_›
    exact ⟨.total later, .refl gs p⟩
  · exact ⟨.refl gs best, not_not.1 (mt goesBefore_iff.2 ‹_›)⟩

theorem foldl_better_mem (gs : List Group) (q : Request) (qs : List Request) : qs.foldl (better gs) q ∈ q :: qs := by
  refine List.foldlRecOn (motive := fun x => x ∈ q :: qs) qs (better gs) (.head _) fun x hx y hy => ?_
  unfold better
  split
  · exact .tail _ hy
  · exact hx

theorem foldl_better_noLater (gs : List Group) (q : Request) (qs : List Request) :
    ∀ p ∈ q :: qs, (qs.foldl (better gs) q).NoLater gs p := by
  induction qs generalizing q with
  | nil => exact fun p hp => List.mem_singleton.1 hp ▸ .refl gs _
  | cons x xs ih =>
    intro p hp
    have first := ih (better gs q x) _ (.head _)
    obtain ⟨overQ, overX⟩ := better_noLater gs q x
    rcases List.mem_cons.1 hp with rfl | hp
    · exact first.trans overQ
    rcases List.mem_cons.1 hp with rfl | hp
    · exact first.trans overX
    · exact ih _ p (.tail _ hp)

theorem mem_ready {s : State} {q : Request} : q ∈ s.arb.requests.filter (serviceable s) ↔
    q ∈ s.arb.requests ∧ ∀ x ∈ s.arb.inService, q.level < x.1 := by
  simp [serviceable]

theorem chooseRequest_none {s : State} : chooseRequest s = none ↔
    ∀ q, ¬(q ∈ s.arb.requests ∧ ∀ x ∈ s.arb.inService, q.level < x.1) := by
  simp only [← mem_ready, ← List.eq_nil_iff_forall_not_mem]
  unfold chooseRequest
  split
  · exact iff_of_true rfl ‹_›
  · next q qs e => exact iff_of_false nofun (by rw [e]; nofun)

theorem chooseRequest_some {s : State} {q : Request} (h : chooseRequest s = some q) :
    (q ∈ s.arb.requests ∧ ∀ x ∈ s.arb.inService, q.level < x.1) ∧
      ∀ p, (p ∈ s.arb.requests ∧ ∀ x ∈ s.arb.inService, p.level < x.1) → q.NoLater s.groups p := by
  simp only [← mem_ready]
  unfold chooseRequest at h
  split at h
  · cases h
  · next first rest e =>
    rw [e, ← Option.some.inj h]
    exact ⟨foldl_better_mem s.groups first rest, foldl_better_noLater s.groups first rest⟩

/-! ## The target of a service (R113) -/

theorem chooseTarget_fit {s : State} {faulted : Option Rig} {dropped : List Rig} {r : Rig} :
    ((s.tracker r).st == .ready && !(faulted == some r) && !dropped.contains r) = true ↔
      (s.tracker r).st = .ready ∧ faulted ≠ some r ∧ r ∉ dropped := by
  simp [and_assoc]

theorem chooseTarget_none {s : State} {faulted : Option Rig} {dropped : List Rig} : chooseTarget s faulted dropped = none ↔
    ∀ r ∈ s.prefs, ¬((s.tracker r).st = .ready ∧ faulted ≠ some r ∧ r ∉ dropped) := by
  simp only [← chooseTarget_fit]
  exact List.find?_eq_none

theorem chooseTarget_some {s : State} {faulted : Option Rig} {dropped : List Rig} {r : Rig}
    (h : chooseTarget s faulted dropped = some r) : ∃ before after, s.prefs = before ++ r :: after ∧
      ((s.tracker r).st = .ready ∧ faulted ≠ some r ∧ r ∉ dropped) ∧
        ∀ x ∈ before, ¬((s.tracker x).st = .ready ∧ faulted ≠ some x ∧ x ∉ dropped) := by
  obtain ⟨fits, before, after, e, others⟩ := List.find?_eq_some_iff_append.1 h
  refine ⟨before, after, e, chooseTarget_fit.1 fits, fun x hx k => ?_⟩
  have no := others x hx
  rw [chooseTarget_fit.2 k] at no
  cases no

/-! ## One request examined (R111, R112) -/

theorem stale_link {s : State} {q : Request} (h : q.cause = .link) : stale s q = true ↔
    (¬∃ g ∈ s.groups, g.gdef.follow = .follow ∧ g.source = .rig q.rig) ∨ (s.tracker q.rig).st ≠ .offline := by
  rw [stale, h, ← carriesFollow_eq_true]
  simp

theorem stale_recover {s : State} {q : Request} (h : q.cause = .recover) : stale s q = true ↔
    ∀ g ∈ s.groups, g.gdef.follow = .follow → g.source ≠ .fallback ∧ g.uncovered = false := by
  rw [stale, h]
  simp [inDifficulty, Group.follows]

theorem stale_failed {s : State} {q : Request} (link : q.cause ≠ .link) (recover : q.cause ≠ .recover) : stale s q = true ↔
    (¬∃ g ∈ s.groups, g.gdef.follow = .follow ∧ g.source = .rig q.rig) ∨ (s.tracker q.rig).st ≠ .failed := by
  rw [← carriesFollow_eq_true]
  unfold stale
  split
  · exact absurd ‹_› link
  · exact absurd ‹_› recover
  · simp

theorem examinations {q : Request} {s : State} (one : s.arb.requests = [q]) :
    (stale s q = true → examine s = { s with arb := { s.arb with requests := [] } }) ∧
      (¬stale s q = true → s.tr.st ≠ .rolling → examine s = s) ∧
      (¬stale s q = true → (∃ x ∈ s.arb.inService, x.1 ≤ q.level) → examine s = s) ∧
      (¬stale s q = true → s.tr.st = .rolling → State.Quiet { s with arb := { s.arb with requests := [] } } →
        (q.cause ≠ .recover → examine s = s.served q) ∧ (q.cause = .recover → examine s = s.recovered q)) := by
  refine ⟨examine_stale one, fun fresh => examine_not_rolling one (Bool.eq_false_iff.2 fresh),
    fun fresh => examine_waits one (Bool.eq_false_iff.2 fresh), fun fresh st quiet => ?_⟩
  have done := examine_serves one (Bool.eq_false_iff.2 fresh) st quiet
  refine ⟨fun cause => ?_, fun cause => ?_⟩
  · rw [if_neg cause] at done
    exact done.trans (served_requests q _ s)
  · rw [if_pos cause] at done
    exact done.trans (recovered_requests q _ s)

end Sys2Proof.Machine

end

section
/-! SUPPORT. An opening that takes members from one open take (R130 to R132, R147). -/

namespace Sys2Proof.Machine

/-! ## The old take (R132) -/

/-- The members that an open order takes from a take, and those it leaves. -/
def Take.taken (names : List Nat) (t : Take) : List Member := t.members.filter fun m => names.contains m.group

def Take.kept (names : List Nat) (t : Take) : List Member := t.members.filter fun m => !names.contains m.group

/-- The groups of the ramps that a supersede snaps. -/
def Take.rampsTaken (names : List Nat) (t : Take) : List Nat := ((t.taken names).filter fun m => m.stage == .ramp).map (·.group)

/-- The TAKE_SNAPPED of a supersede, if there is one (R147). -/
def Take.snaps (names : List Nat) (n : Nat) (t : Take) : List NoticeBody :=
  if t.rampsTaken names = [] then []
  else [.takeSnapped t.num .supersede (t.rampsTaken names) t.snapCount n (t.afterSupersede (t.kept names)).snapState]

/-- The groups of which the supersede of a take completes the member. -/
def Take.supersededGroups (names : List Nat) (t : Take) (gs : List Group) : List Group :=
  completeGroups t ((t.taken names).filter fun m => !(m.stage == .outgoing)) gs

theorem Take.endRampIfDue_groups (t : Take) : t.endRampIfDue.members.map (·.group) = t.members.map (·.group) := by
  unfold Take.endRampIfDue
  split
  · change (t.members.map Member.arrive).map _ = _
    rw [List.map_map]
    refine List.map_congr_left fun m _ => ?_
    change m.arrive.group = _
    unfold Member.arrive
    split <;> rfl
  · rfl

theorem any_group (ms : List Member) (p : Nat → Bool) : (ms.any fun m => p m.group) = (ms.map (·.group)).any p := by
  rw [List.any_map]
  rfl

theorem supersedeTake_one {s : State} {old : Take} (takes : s.sw.takes = [old]) {names : List Nat}
    (touched : ∃ m ∈ old.members, m.group ∈ names) (n : Nat) : supersedeTake names n s old = { s with
      groups := old.endRampIfDue.supersededGroups names s.groups
      sw := { s.sw with takes := [old.endRampIfDue.afterSupersede (old.endRampIfDue.kept names)] }
      desk := s.desk.offers (old.endRampIfDue.snaps names n) s.block } := by
  have num : old.num = old.endRampIfDue.num := old.endRampIfDue_num.symm
  have groups := old.endRampIfDue_groups
  unfold supersedeTake
  dsimp only
  generalize old.endRampIfDue = t at num groups ⊢
  have some_ : (t.taken names).isEmpty = false := by
    obtain ⟨m, hm, named⟩ := touched
    have there : m.group ∈ t.members.map (·.group) := groups ▸ List.mem_map_of_mem hm
    obtain ⟨k, hk, e⟩ := List.mem_map.1 there
    have taken : k ∈ t.taken names := List.mem_filter.2 ⟨hk, List.contains_iff_mem.2 (e ▸ named)⟩
    exact List.isEmpty_eq_false_iff.2 (List.ne_nil_of_mem taken)
  have written : updateTake t.num (fun _ => t.afterSupersede (t.kept names))
      { s with groups := t.supersededGroups names s.groups } = { s with
        groups := t.supersededGroups names s.groups, sw := { s.sw with takes := [t.afterSupersede (t.kept names)] } } := by
    rw [updateTake]
    simp [takes, num]
  change (if (t.taken names).isEmpty = true then s else if ((t.taken names).filter fun m => m.stage == .ramp).isEmpty = true
    then updateTake t.num (fun _ => t.afterSupersede (t.kept names)) { s with groups := t.supersededGroups names s.groups }
    else raise _ (updateTake t.num (fun _ => t.afterSupersede (t.kept names))
      { s with groups := t.supersededGroups names s.groups })) = _
  rw [if_neg (by rw [some_]; nofun), written]
  by_cases none_ : t.rampsTaken names = []
  · rw [Take.snaps, if_pos none_, if_pos (List.isEmpty_iff.2 (List.map_eq_nil_iff.1 none_))]
    rfl
  · rw [Take.snaps, if_neg none_, if_neg fun k => none_ (List.map_eq_nil_iff.2 (List.isEmpty_iff.1 k))]
    rfl

/-- The reports that follow an event's writes, from the groups before them. -/
theorem lossReports_eq (before : List Group) (s : State) :
    lossReports before s = State.regrouped s.groups { s with groups := before } :=
  writeGroups_eq (fun _ => s.groups) { s with groups := before }

/-! ## The state before the new take joins -/

/-- The state of an opening that takes members from the take `t`, before the new take joins the table. -/
def State.superseded (names : List Nat) (n : Nat) (t : Take) (s : State) : State :=
  State.regrouped (t.supersededGroups names s.groups) { s with
    sw := ⟨[t.afterSupersede (t.kept names)], (n + 1) % 256⟩
    desk := s.desk.offers (t.snaps names n) s.block }

section

variable {o : OpenOrder} {s : State} {old : Take} (takes : s.sw.takes = [old])
  (touched : ∃ m ∈ old.members, m.group ∈ o.members.map (·.1))

include takes touched

theorem touched_one : (s.sw.takes.filter fun t => t.members.any fun m => (o.members.map (·.1)).contains m.group) = [old] := by
  obtain ⟨m, hm, named⟩ := touched
  rw [takes]
  exact List.filter_cons_of_pos (List.any_eq_true.2 ⟨m, hm, List.contains_iff_mem.2 named⟩)

theorem beforeJoin_one :
    beforeJoin o s = s.superseded (o.members.map (·.1)) (takeNumber s.sw) old.endRampIfDue := by
  rw [beforeJoin, touched_one takes touched, List.foldl_cons, List.foldl_nil,
    supersedeTake_one (s := { s with sw := { s.sw with next := (takeNumber s.sw + 1) % 256 } }) takes touched]
  exact lossReports_eq _ _

end

theorem Member.arrive_outgoing (m : Member) : (m.arrive.stage == .outgoing) = (m.stage == .outgoing) := by
  unfold Member.arrive
  split
  · next ramp =>
    rw [ramp]
    rfl
  · rfl

theorem joinSource_one (t : Take) (x : Nat × Source) : joinSource [t] x =
    if t.members.any fun m => m.group == x.1 && !(m.stage == .outgoing) then t.target else x.2 := by
  unfold joinSource
  rw [List.find?_singleton]
  cases t.members.any fun m => m.group == x.1 && !(m.stage == .outgoing) <;> rfl

/-- A ramp end that is taken first changes no from source. -/
theorem joinSource_endRamp (t : Take) (x : Nat × Source) : joinSource [t.endRampIfDue] x = joinSource [t] x := by
  rw [joinSource_one, joinSource_one, t.endRampIfDue_target]
  unfold Take.endRampIfDue
  split
  · have same : (t.settleNow.members.any fun m => m.group == x.1 && !(m.stage == .outgoing)) =
        t.members.any fun m => m.group == x.1 && !(m.stage == .outgoing) := by
      change (t.members.map Member.arrive).any _ = _
      rw [List.any_map]
      refine congrArg (fun p => t.members.any p) (funext fun m => ?_)
      rw [Function.comp_apply, m.arrive_outgoing]
      unfold Member.arrive
      split <;> rfl
    rw [same]
  · rfl

/-- The number of a take opened beside one other (R130). -/
theorem takeNumber_one {sw : Switch} {old : Take} (takes : sw.takes = [old]) (next : sw.next < 256) :
    takeNumber sw = if old.num = sw.next then (sw.next + 1) % 256 else sw.next := by
  have range : List.range 256 = 0 :: 1 :: ((List.range 254).map Nat.succ).map Nat.succ := by
    rw [List.range_succ_eq_map, List.range_succ_eq_map]
    rfl
  have held (n : Nat) : (findTake [old] n).isNone = !(old.num == n) := by
    unfold findTake
    rw [List.find?_singleton]
    cases old.num == n <;> rfl
  unfold takeNumber
  rw [takes, range, List.map_cons, List.map_cons, Nat.add_zero, Nat.mod_eq_of_lt next, List.find?_cons, held]
  by_cases e : old.num = sw.next
  · have other : (old.num == (sw.next + 1) % 256) = false := beq_eq_false_iff_ne.2 (by omega)
    rw [if_pos e, beq_iff_eq.2 e, List.find?_cons, held, other]
    rfl
  · rw [if_neg e, beq_eq_false_iff_ne.2 e]
    rfl

end Sys2Proof.Machine

end

section
/-! SUPPORT. The new take joins the table beside the one that it took members from, which closes if it was emptied (R131, R132,
R148). -/

namespace Sys2Proof.Machine

/-- The record of the take that an open order opens when it takes members from the take `t` (R128, R129, R131). -/
def Take.joining (o : OpenOrder) (n : Nat) (t : Take) (s : State) : Take :=
  { num := n, levels := [o.level], cause := o.cause, rig := o.rig, target := o.target
    members := (o.members.map fun x => (x.1, joinSource [t] x)).map
      (newMember (s.superseded (o.members.map (·.1)) n t) o.target)
    dropped := [], blendLength := s.settings.blend * 32, settlePeriod := s.settings.settle
    st := .waiting, startFrame := firstFrame (s.block + 1), wait := 0, engine := none, ramp := 0
    settleCount := 0, due := none }

/-- The state of an opening once the new take has joined the table (R131, R147). -/
def State.joined (o : OpenOrder) (n : Nat) (t : Take) (s : State) : State :=
  let u := s.superseded (o.members.map (·.1)) n t
  raise (.takeBegun n o.cause [o.level] o.target (t.joining o n s).members [t.num] false [])
    { u with sw := { u.sw with takes := insertTake (t.joining o n s) u.sw.takes } }

theorem openTake_one {o : OpenOrder} {s : State} {old : Take} (takes : s.sw.takes = [old])
    (touched : ∃ m ∈ old.members, m.group ∈ o.members.map (·.1)) {n : Nat} (num : takeNumber s.sw = n) {t : Take}
    (ended : old.endRampIfDue = t) : openTake o s =
      (((s.superseded (o.members.map (·.1)) n t).sw.takes.filter fun t => t.members.isEmpty).foldl (closeSuperseded n)
        (s.joined o n t)) := by
  have sources : joinSource [old] = joinSource [t] := funext fun x => ended ▸ (joinSource_endRamp old x).symm
  have number : old.num = t.num := ended ▸ old.endRampIfDue_num.symm
  have opened : openedTake o s = t.joining o n s := by
    rw [openedTake, beforeJoin_one takes touched, ended, takes, sources, num]
    rfl
  rw [openTake_eq, opened, beforeJoin_one takes touched, touched_one takes touched, ended, num, List.map_singleton, number]
  rfl

/-! ## What becomes of the old take -/

theorem Take.afterSupersede_emptied {t : Take} {names : List Nat} (h : t.kept names = []) :
    t.afterSupersede (t.kept names) = { t with members := [] } := by
  rw [h]
  rfl

theorem Take.afterSupersede_left {t : Take} {kept : List Member} (h : kept ≠ []) : t.afterSupersede kept =
    if t.st = .blending ∧ (kept.any fun m => m.stage == .ramp) = false then
      { t with st := .settling, members := kept, engine := none, settleCount := t.settlePeriod, due := none }
    else { t with members := kept } := by
  unfold Take.afterSupersede
  dsimp only
  rw [if_neg fun k => h (List.isEmpty_iff.1 k)]
  split
  · next c =>
    obtain ⟨-, none_⟩ := c
    have same : kept.map Member.arrive = kept := by
      refine (List.map_congr_left fun m hm => ?_).trans (List.map_id' _)
      have no := List.any_eq_false.1 none_ m hm
      exact if_neg fun k => no (beq_iff_eq.2 k)
    rw [Take.settleNow]
    dsimp only
    rw [same]
  · rfl

theorem mem_levelUnion {xs ys : List Nat} {l : Nat} (hx : ∀ x ∈ xs, x ≤ 4) (hy : ∀ y ∈ ys, y ≤ 4) :
    l ∈ levelUnion xs ys ↔ l ∈ xs ∨ l ∈ ys := by
  have range (h : l ≤ 4) : l ∈ [0, 1, 2, 3, 4] := by
    simp only [List.mem_cons, List.not_mem_nil, or_false]
    omega
  rw [levelUnion, List.mem_filter, Bool.or_eq_true, List.contains_iff_mem, List.contains_iff_mem]
  exact ⟨fun h => h.2, fun h => ⟨range (h.elim (hx l) (hy l)), h⟩⟩

theorem insertTake_length (t : Take) (ts : List Take) : (insertTake t ts).length = ts.length + 1 := by
  induction ts with
  | nil => rfl
  | cons u us ih =>
    unfold insertTake
    split
    · rfl
    · rw [List.length_cons, ih, List.length_cons]

theorem insertTake_without {t u : Take} (h : t.num ≠ u.num) :
    (insertTake t [u]).filter (fun x => !(x.num == u.num)) = [t] := by
  unfold insertTake
  split <;> simp [insertTake, h]

/-- The opening's end, with the old take still in the table. -/
theorem joined_kept {o : OpenOrder} {n : Nat} {t : Take} {s : State} (h : t.kept (o.members.map (·.1)) ≠ []) :
    (((s.superseded (o.members.map (·.1)) n t).sw.takes.filter fun t => t.members.isEmpty).foldl (closeSuperseded n)
        (s.joined o n t)) = s.joined o n t := by
  have members : (t.afterSupersede (t.kept (o.members.map (·.1)))).members = t.kept (o.members.map (·.1)) := by
    rw [Take.afterSupersede_left h]
    split <;> rfl
  have none_ : (s.superseded (o.members.map (·.1)) n t).sw.takes.filter (fun t => t.members.isEmpty) = [] := by
    change [t.afterSupersede _].filter _ = _
    refine List.filter_cons_of_neg ?_
    rw [members, List.isEmpty_iff]
    exact h
  rw [none_, List.foldl_nil]

/-- The opening's end, the old take having been emptied (R131, R132, R148). -/
theorem joined_emptied {o : OpenOrder} {n : Nat} {t : Take} {s : State} (h : t.kept (o.members.map (·.1)) = [])
    (fresh : n ≠ t.num) :
    (((s.superseded (o.members.map (·.1)) n t).sw.takes.filter fun t => t.members.isEmpty).foldl (closeSuperseded n)
        (s.joined o n t)) =
      raise (.takeSettled t.num .superseded t.cause t.target t.levels (some n) t.startBlock []) { s.joined o n t with
        sw := ⟨[{ t.joining o n s with levels := levelUnion [o.level] t.levels }], (n + 1) % 256⟩
        arb := { (s.joined o n t).arb with
          inService := s.arb.inService.map fun x => if x.2 = t.num then (x.1, n) else x } } := by
  have after := Take.afterSupersede_emptied h
  have takes : (s.superseded (o.members.map (·.1)) n t).sw.takes = [{ t with members := [] }] := congrArg ([·]) after
  have alone : ((insertTake (t.joining o n s) [{ t with members := [] }]).filter fun x => !(x.num == t.num)).map
      (passLevels n { t with members := [] }) = [{ t.joining o n s with levels := levelUnion [o.level] t.levels }] := by
    rw [insertTake_without (u := { t with members := [] }) fresh]
    exact congrArg ([·]) (if_pos rfl)
  have all : [{ t with members := [] }].filter (fun t : Take => t.members.isEmpty) = [{ t with members := [] }] := rfl
  rw [takes, all, List.foldl_cons, List.foldl_nil]
  change raise _ { s.joined o n t with
    sw := ⟨((insertTake (t.joining o n s) (s.superseded (o.members.map (·.1)) n t).sw.takes).filter
      fun x => !(x.num == t.num)).map (passLevels n { t with members := [] }), (n + 1) % 256⟩, arb := _ } = _
  rw [takes, alone]
  rfl

end Sys2Proof.Machine

end

section
/-! SUPPORT. What an opening that takes members from one take leaves (R130 to R132, R147), and the arbitration rules. -/

namespace Sys2Proof.Machine

/-! ## Members and groups -/

theorem mem_taken {names : List Nat} {t : Take} {m : Member} : m ∈ t.taken names ↔ m ∈ t.members ∧ m.group ∈ names := by
  rw [Take.taken, List.mem_filter, List.contains_iff_mem]

/-- A member of the new take (R129, R132). -/
theorem joining_member {o : OpenOrder} {t : Take} {n : Nat} {s : State} {i : Nat} {x : Nat × Source} (h : o.members[i]? = some x) :
    ∃ m, (t.joining o n s).members[i]? = some m ∧ m.group = x.1 ∧
      m.stage = (if m.src = o.target then .incoming else .outgoing) ∧ (o.target = .fallback → m.mode = .cut) ∧
      (∀ k ∈ t.taken (o.members.map (·.1)), k.group = x.1 → k.stage ≠ .outgoing → m.src = t.target) ∧
      ((∀ k ∈ t.taken (o.members.map (·.1)), k.group = x.1 → k.stage = .outgoing) → m.src = x.2) := by
  have named : x.1 ∈ o.members.map (·.1) := List.mem_map_of_mem (List.mem_of_getElem? h)
  refine ⟨newMember (s.superseded (o.members.map (·.1)) n t) o.target (x.1, joinSource [t] x), ?_, rfl, rfl,
    fun fallback => ?_, fun k hk group stage => ?_, fun all => ?_⟩
  · change ((o.members.map _).map _)[i]? = _
    rw [List.getElem?_map, List.getElem?_map, h]
    rfl
  · change (if o.target = .fallback then GroupKind.cut else _) = _
    exact if_pos fallback
  · change joinSource [t] x = _
    rw [joinSource_one]
    refine if_pos (List.any_eq_true.2 ⟨k, (mem_taken.1 hk).1, ?_⟩)
    simp [group, stage]
  · change joinSource [t] x = _
    rw [joinSource_one]
    refine if_neg fun some_ => ?_
    obtain ⟨k, hk, e⟩ := List.any_eq_true.1 some_
    simp only [Bool.and_eq_true, beq_iff_eq, Bool.not_eq_true', beq_eq_false_iff_ne] at e
    exact e.2 (all k (mem_taken.2 ⟨hk, e.1 ▸ named⟩) e.1)

/-- What a supersede leaves of a group (R132). -/
theorem supersededGroups_spec {names : List Nat} {t : Take} (apart : (t.members.map (·.group)).Nodup) {gs : List Group} {i : Nat}
    {g : Group} (h : gs[i]? = some g) :
    ((∀ k ∈ t.taken names, k.group = g.num → k.stage = .outgoing) → (t.supersededGroups names gs)[i]? = some g) ∧
      ∀ k ∈ t.taken names, k.group = g.num → k.stage ≠ .outgoing →
        (t.supersededGroups names gs)[i]? = some (g.complete t k) := by
  have past {k : Member} : k ∈ (t.taken names).filter (fun m => !(m.stage == .outgoing)) ↔
      k ∈ t.taken names ∧ k.stage ≠ .outgoing := by simp
  unfold Take.supersededGroups completeGroups
  rw [List.getElem?_map, h, Option.map_some]
  refine ⟨fun all => ?_, fun k hk group stage => ?_⟩
  · have none_ : ((t.taken names).filter fun m => !(m.stage == .outgoing)).find? (fun m => m.group == g.num) = none :=
      List.find?_eq_none.2 fun m hm e => (past.1 hm).2 (all m (past.1 hm).1 (beq_iff_eq.1 e))
    rw [none_]
  · have found : ((t.taken names).filter fun m => !(m.stage == .outgoing)).find? (fun m => m.group == g.num) = some k :=
      find_only (past.2 ⟨hk, stage⟩) (beq_iff_eq.2 group) fun m hm e =>
        member_unique apart (mem_taken.1 hk).1 (mem_taken.1 (past.1 hm).1).1 ((beq_iff_eq.1 e).trans group.symm)
    rw [found]

theorem supersededGroups_length (names : List Nat) (t : Take) (gs : List Group) :
    (t.supersededGroups names gs).length = gs.length := List.length_map _

/-! ## The state at the end -/

theorem joined_tracker (o : OpenOrder) (n : Nat) (t : Take) (s : State) :
    (s.joined o n t).tracker = s.trackerAfter (t.supersededGroups (o.members.map (·.1)) s.groups) :=
  State.regrouped_tracker_eq _ _

theorem joined_desk (o : OpenOrder) (n : Nat) (t : Take) (s : State) : (s.joined o n t).desk = s.desk.offers
    (t.snaps (o.members.map (·.1)) n ++ s.rigStates s.tracker (s.joined o n t).tracker ++
      [.takeBegun n o.cause [o.level] o.target (t.joining o n s).members [t.num] false []]) s.block := by
  rw [joined_tracker, Desk.offers_append, Desk.offers_append]
  rfl

theorem joined_takes (o : OpenOrder) (n : Nat) (t : Take) (s : State) : (s.joined o n t).sw.takes =
    insertTake (t.joining o n s) [t.afterSupersede (t.kept (o.members.map (·.1)))] := rfl

/-- Settles O49. -/
theorem arbitrationRules : Obligations.ArbitrationRules := by
  refine ⟨fun r d s => ?_, fun s => ?_, fun s faulted dropped => ⟨chooseTarget_none, fun r => chooseTarget_some⟩,
    fun q s one cause => ?_, fun o old s takes next named apart nums level levels touched => ?_⟩
  · intro level follow
    have same : level = d.level := by cases d <;> rfl
    have carries : carriesFollow s.groups r = true ↔ follow := carriesFollow_eq_true
    unfold decide103
    rw [same]
    refine ⟨fun st => if_neg st, fun st no => ?_, fun st yes high => ?_, fun st yes low => ?_⟩
    · rw [if_pos st, if_neg (mt carries.1 no)]
    · rw [if_pos st, if_pos (carries.2 yes), if_neg (Nat.not_lt.2 high)]
    · rw [if_pos st, if_pos (carries.2 yes), if_pos low]
  · intro ready follow port
    have ports : port = portOrder := funext fun r => by cases r <;> rfl
    rw [ports]
    exact ⟨chooseRequest_none, fun q => chooseRequest_some⟩
  · intro follows stale_
    have stale_iff : stale_ ↔ stale s q = true := by
      by_cases link : q.cause = .link
      · rw [stale_link link]
        simp [stale_, link, follows]
      · by_cases recover : q.cause = .recover
        · rw [stale_recover recover]
          simp [stale_, recover]
        · rw [stale_failed link recover]
          simp [stale_, link, recover, follows]
    rw [stale_iff]
    exact examinations one
  · intro t n taken kept started left ramps ended
    have number : takeNumber s.sw = n := takeNumber_one takes next
    refine ⟨fun st due => ?_, fun running => ?_⟩
    · have first : old.endRampIfDue = ended := if_pos ⟨st, due⟩
      have second : ended.endRampIfDue = ended := if_neg (by rintro ⟨e, -⟩; cases e)
      have touched' : ∃ m ∈ ended.members, m.group ∈ o.members.map (·.1) := by
        obtain ⟨m, hm, e⟩ := touched
        have there : m.group ∈ ended.members.map (·.group) := by
          rw [← first, old.endRampIfDue_groups]
          exact List.mem_map_of_mem hm
        obtain ⟨k, hk, e'⟩ := List.mem_map.1 there
        exact ⟨k, hk, e' ▸ e⟩
      have number' : takeNumber { s.sw with takes := [ended] } = n :=
        takeNumber_one (sw := { s.sw with takes := [ended] }) (old := ended) rfl next
      have right := openTake_one (o := o) (s := { s with sw := { s.sw with takes := [ended] } }) rfl touched' number' second
      exact (openTake_one takes touched number first).trans right.symm
    · have still : old.endRampIfDue = old := if_neg running
      have opened := openTake_one takes touched number still
      have fresh : n ≠ old.num := by
        simp only [n]
        split <;> omega
      have after : kept ≠ [] → old.afterSupersede kept = left := Take.afterSupersede_left
      have snapState : (old.afterSupersede kept).snapState = if kept = [] then .closed else left.st := by
        by_cases none_ : kept = []
        · rw [if_pos none_, none_]
          rfl
        · have members : left.members = kept := by
            simp only [left]
            split <;> rfl
          rw [if_neg none_, after none_, Take.snapState, members, if_neg fun k => none_ (List.isEmpty_iff.1 k)]
      have snaps : old.snaps (o.members.map (·.1)) n = if ramps = [] then [] else [.takeSnapped old.num .supersede ramps
          (min old.ramp (old.blendLength - 1)) n (if kept = [] then .closed else left.st)] := by
        rw [← snapState]
        rfl
      have desk := joined_desk o n old s
      rw [snaps] at desk
      have groups (i : Nat) (g : Group) (h : s.groups[i]? = some g) :=
        supersededGroups_spec (names := o.members.map (·.1)) apart h
      have length : (old.joining o n s).members.length = o.members.length := (List.length_map _).trans (List.length_map _)
      by_cases none_ : kept = []
      · have final : t = _ := opened.trans (joined_emptied none_ fresh)
        clear_value t
        subst final
        refine ⟨{ old.joining o n s with levels := levelUnion [o.level] old.levels }, .head _, rfl, rfl, rfl, rfl, rfl, rfl, rfl,
          rfl, rfl, rfl, rfl, rfl, length, fun i x h => joining_member h, supersededGroups_length _ _ _, groups,
          fun _ => ⟨rfl, fun l => ?_, rfl⟩, absurd none_, fun r => congrFun (joined_tracker o n old s) r, rfl, rfl, ?_⟩
        · rw [mem_levelUnion (fun x hx => List.mem_singleton.1 hx ▸ level) levels, List.mem_singleton]
        · rw [if_pos (c := kept = []) (α := List NoticeBody) none_, Desk.offers_append]
          exact congrArg (fun d : Desk => d.offers
            [.takeSettled old.num .superseded old.cause old.target old.levels (some n) started []] s.block) desk
      · have final : t = _ := opened.trans (joined_kept none_)
        clear_value t
        subst final
        have takes' : (s.joined o n old).sw.takes = insertTake (old.joining o n s) [left] := by rw [← after none_]; rfl
        refine ⟨old.joining o n s, ?_, rfl, rfl, rfl, rfl, rfl, rfl, rfl, rfl, rfl, rfl, rfl, rfl, length,
          fun i x h => joining_member h, supersededGroups_length _ _ _, groups, fun k => absurd k none_,
          fun _ => ⟨?_, ?_, rfl, rfl⟩, fun r => congrFun (joined_tracker o n old s) r, rfl, rfl, ?_⟩
        · rw [takes']
          exact mem_insertTake.2 (.inl rfl)
        · rw [takes']
          exact mem_insertTake.2 (.inr (.head _))
        · rw [takes', insertTake_length]
          rfl
        · rw [if_neg (c := kept = []) (α := List NoticeBody) none_, List.append_nil]
          exact desk

end Sys2Proof.Machine

end
